-- ==== Sys2Proof/Word.lean ====
section
/-! DEFINITION. The word types of the core: bytes, and the 16-bit words that registers and addresses hold
(00_scope.md R8: BYTE_BITS, WORD_BITS, ADDR_WIDTH). -/

namespace Sys2Proof

/-- One byte: a memory cell, P, an opcode, an operand byte. -/
abbrev Byte := BitVec 8

/-- A 16-bit word: a slot of A, X or Y, a stack pointer, PC, IP, WP, an address. -/
abbrev Word := BitVec 16

end Sys2Proof
end

