-- ==== Sys2Proof/Syntax.lean ====
section
/-! DEFINITION. The instructions and their operand forms: one constructor of `Instr` per row of
spec/opcode_table.json, with the operand bytes of 30_encoding.md R86. -/

namespace Sys2Proof

/-- Operation width W (00_scope.md R10). -/
inductive Width where
  | byte
  | word
deriving DecidableEq, Repr

/-- Wrap class of an effective address: how its second byte is found (20_memory.md R64). -/
inductive Wrap where
  | page
  | full
deriving DecidableEq, Repr

/-- The three register stacks (10_state.md R20). -/
inductive RegName where
  | a
  | x
  | y
deriving DecidableEq, Repr

/-- The eight fields of P (10_state.md R32). -/
inductive Flag where
  | n | v | m | b | d | i | z | c
deriving DecidableEq, Repr

/-- PrefixState: six one-bit flags (10_state.md R43). -/
structure PrefixState where
  osx : Bool
  ind : Bool
  siz : Bool
  oax : Bool
  oay : Bool
  lscx : Bool
deriving DecidableEq, Repr

/-- All six flags 0 (10_state.md R43, R44). -/
def PrefixState.clear : PrefixState := ⟨false, false, false, false, false, false⟩

/-- "any PS flag is set" (60_exceptions.md R410). -/
def PrefixState.any (ps : PrefixState) : Bool :=
  ps.osx || ps.ind || ps.siz || ps.oax || ps.oay || ps.lscx

/-- The addressing modes that name a memory operand, with their operand bytes (00_scope.md R18). `ipp` carries
none: its placeholder byte is ignored (40_addressing.md R137). -/
inductive MemMode where
  | zp (z : Byte)
  | zpX (z : Byte)
  | zpY (z : Byte)
  | zpI (z : Byte)
  | zpXI (z : Byte)
  | zpIY (z : Byte)
  | abs (a : Word)
  | absX (a : Word)
  | absY (a : Word)
  | absI (a : Word)
  | absXI (a : Word)
  | ipp
deriving DecidableEq, Repr

/-- The source operand of a data instruction (40_addressing.md R111): an immediate value or a memory operand. -/
inductive Operand where
  | imm (v : Word)
  | mem (m : MemMode)
deriving DecidableEq, Repr

/-- The sixteen extension instructions, whose opcodes are the open parameter EXT_OPCODE (30_encoding.md R93). -/
inductive ExtOp where
  | osx | ind | siz | oax | oay | osz | ois | isz
  | dup | swp | rot
  | nxt | ent | phi | pli | ini
deriving DecidableEq, Repr

/-- The operations an IPP_OPS entry may pair with the ipp mode: the data operations of 42, 43 and 44
(30_encoding.md R95). They have no row in the opcode table. -/
inductive IppOp where
  | lda | ldx | ldy | sta | stx | sty | stz
  | adc | sbc | and | ora | eor | cmp | cpx | cpy | bit
  | asl | lsr | rol | ror | inc | dec | tsb | trb
  | rmb (n : Fin 8)
  | smb (n : Fin 8)
deriving DecidableEq, Repr

/-- The instructions, one constructor per row of spec/opcode_table.json. An immediate is held as a 16-bit value: at
byte width the instruction holds one operand byte, zero-extended (log 10). `z` is a zero-page operand byte, `a` an
absolute operand, `r` a branch offset as it is encoded. -/
inductive Instr where
  /-- BRK imp, 0x00, 46 R370. -/
  | brk
  /-- ORA zpXI, 0x01, 43 R227. -/
  | oraZpXI (z : Byte)
  /-- ORA zp, 0x05, 43 R227. -/
  | oraZp (z : Byte)
  /-- ORA imm, 0x09, 43 R227. -/
  | oraImm (v : Word)
  /-- ORA abs, 0x0D, 43 R227. -/
  | oraAbs (a : Word)
  /-- ORA zpIY, 0x11, 43 R227. -/
  | oraZpIY (z : Byte)
  /-- ORA zpI, 0x12, 43 R227. -/
  | oraZpI (z : Byte)
  /-- ORA zpX, 0x15, 43 R227. -/
  | oraZpX (z : Byte)
  /-- ORA absY, 0x19, 43 R227. -/
  | oraAbsY (a : Word)
  /-- ORA absX, 0x1D, 43 R227. -/
  | oraAbsX (a : Word)
  /-- TSB zp, 0x04, 44 R272. -/
  | tsbZp (z : Byte)
  /-- TSB abs, 0x0C, 44 R272. -/
  | tsbAbs (a : Word)
  /-- ASL zp, 0x06, 44 R262. -/
  | aslZp (z : Byte)
  /-- ASL acc, 0x0A, 44 R262. -/
  | aslAcc
  /-- ASL abs, 0x0E, 44 R262. -/
  | aslAbs (a : Word)
  /-- ASL zpX, 0x16, 44 R262. -/
  | aslZpX (z : Byte)
  /-- ASL absX, 0x1E, 44 R262. -/
  | aslAbsX (a : Word)
  /-- RMB0 zp, 0x07, 44 R277. -/
  | rmb0 (z : Byte)
  /-- PHP imp, 0x08, 45 R318. -/
  | php
  /-- BBR0 zprel, 0x0F, 44 R293. -/
  | bbr0 (z : Byte) (r : Byte)
  /-- BPL rel, 0x10, 46 R342. -/
  | bplRel (r : Byte)
  /-- BPL rel16, ⟨IND⟩ 0x10, 46 R341. -/
  | bplRel16 (r : Word)
  /-- TRB zp, 0x14, 44 R273. -/
  | trbZp (z : Byte)
  /-- TRB abs, 0x1C, 44 R273. -/
  | trbAbs (a : Word)
  /-- RMB1 zp, 0x17, 44 R278. -/
  | rmb1 (z : Byte)
  /-- CLC imp, 0x18, 46 R373. -/
  | clc
  /-- INC acc, 0x1A, 44 R266. -/
  | incAcc
  /-- INC zp, 0xE6, 44 R266. -/
  | incZp (z : Byte)
  /-- INC abs, 0xEE, 44 R266. -/
  | incAbs (a : Word)
  /-- INC zpX, 0xF6, 44 R266. -/
  | incZpX (z : Byte)
  /-- INC absX, 0xFE, 44 R266. -/
  | incAbsX (a : Word)
  /-- BBR1 zprel, 0x1F, 44 R294. -/
  | bbr1 (z : Byte) (r : Byte)
  /-- JSR abs, 0x20, 46 R366. -/
  | jsr (a : Word)
  /-- AND zpXI, 0x21, 43 R226. -/
  | andZpXI (z : Byte)
  /-- AND zp, 0x25, 43 R226. -/
  | andZp (z : Byte)
  /-- AND imm, 0x29, 43 R226. -/
  | andImm (v : Word)
  /-- AND abs, 0x2D, 43 R226. -/
  | andAbs (a : Word)
  /-- AND zpIY, 0x31, 43 R226. -/
  | andZpIY (z : Byte)
  /-- AND zpI, 0x32, 43 R226. -/
  | andZpI (z : Byte)
  /-- AND zpX, 0x35, 43 R226. -/
  | andZpX (z : Byte)
  /-- AND absY, 0x39, 43 R226. -/
  | andAbsY (a : Word)
  /-- AND absX, 0x3D, 43 R226. -/
  | andAbsX (a : Word)
  /-- BIT zp, 0x24, 43 R233. -/
  | bitZp (z : Byte)
  /-- BIT abs, 0x2C, 43 R233. -/
  | bitAbs (a : Word)
  /-- BIT zpX, 0x34, 43 R233. -/
  | bitZpX (z : Byte)
  /-- BIT absX, 0x3C, 43 R233. -/
  | bitAbsX (a : Word)
  /-- BIT imm, 0x89, 43 R234. -/
  | bitImm (v : Word)
  /-- ROL zp, 0x26, 44 R264. -/
  | rolZp (z : Byte)
  /-- ROL acc, 0x2A, 44 R264. -/
  | rolAcc
  /-- ROL abs, 0x2E, 44 R264. -/
  | rolAbs (a : Word)
  /-- ROL zpX, 0x36, 44 R264. -/
  | rolZpX (z : Byte)
  /-- ROL absX, 0x3E, 44 R264. -/
  | rolAbsX (a : Word)
  /-- RMB2 zp, 0x27, 44 R279. -/
  | rmb2 (z : Byte)
  /-- PLP imp, 0x28, 45 R319. -/
  | plp
  /-- BBR2 zprel, 0x2F, 44 R295. -/
  | bbr2 (z : Byte) (r : Byte)
  /-- BMI rel, 0x30, 46 R343. -/
  | bmiRel (r : Byte)
  /-- BMI rel16, ⟨IND⟩ 0x30, 46 R341. -/
  | bmiRel16 (r : Word)
  /-- RMB3 zp, 0x37, 44 R280. -/
  | rmb3 (z : Byte)
  /-- SEC imp, 0x38, 46 R374. -/
  | sec
  /-- DEC acc, 0x3A, 44 R267. -/
  | decAcc
  /-- DEC zp, 0xC6, 44 R267. -/
  | decZp (z : Byte)
  /-- DEC abs, 0xCE, 44 R267. -/
  | decAbs (a : Word)
  /-- DEC zpX, 0xD6, 44 R267. -/
  | decZpX (z : Byte)
  /-- DEC absX, 0xDE, 44 R267. -/
  | decAbsX (a : Word)
  /-- BBR3 zprel, 0x3F, 44 R296. -/
  | bbr3 (z : Byte) (r : Byte)
  /-- RTI imp, 0x40, 46 R371. -/
  | rti
  /-- EOR zpXI, 0x41, 43 R228. -/
  | eorZpXI (z : Byte)
  /-- EOR zp, 0x45, 43 R228. -/
  | eorZp (z : Byte)
  /-- EOR imm, 0x49, 43 R228. -/
  | eorImm (v : Word)
  /-- EOR abs, 0x4D, 43 R228. -/
  | eorAbs (a : Word)
  /-- EOR zpIY, 0x51, 43 R228. -/
  | eorZpIY (z : Byte)
  /-- EOR zpI, 0x52, 43 R228. -/
  | eorZpI (z : Byte)
  /-- EOR zpX, 0x55, 43 R228. -/
  | eorZpX (z : Byte)
  /-- EOR absY, 0x59, 43 R228. -/
  | eorAbsY (a : Word)
  /-- EOR absX, 0x5D, 43 R228. -/
  | eorAbsX (a : Word)
  /-- LSR zp, 0x46, 44 R263. -/
  | lsrZp (z : Byte)
  /-- LSR acc, 0x4A, 44 R263. -/
  | lsrAcc
  /-- LSR abs, 0x4E, 44 R263. -/
  | lsrAbs (a : Word)
  /-- LSR zpX, 0x56, 44 R263. -/
  | lsrZpX (z : Byte)
  /-- LSR absX, 0x5E, 44 R263. -/
  | lsrAbsX (a : Word)
  /-- RMB4 zp, 0x47, 44 R281. -/
  | rmb4 (z : Byte)
  /-- PHA imp, 0x48, 45 R315. -/
  | pha
  /-- JMP abs, 0x4C, 46 R365. -/
  | jmpAbs (a : Word)
  /-- JMP absI, 0x6C, 46 R367. -/
  | jmpAbsI (a : Word)
  /-- JMP absXI, 0x7C, 46 R368. -/
  | jmpAbsXI (a : Word)
  /-- BBR4 zprel, 0x4F, 44 R297. -/
  | bbr4 (z : Byte) (r : Byte)
  /-- BVC rel, 0x50, 46 R344. -/
  | bvcRel (r : Byte)
  /-- BVC rel16, ⟨IND⟩ 0x50, 46 R341. -/
  | bvcRel16 (r : Word)
  /-- RMB5 zp, 0x57, 44 R282. -/
  | rmb5 (z : Byte)
  /-- CLI imp, 0x58, 46 R375. -/
  | cli
  /-- PHY imp, 0x5A, 45 R317. -/
  | phy
  /-- BBR5 zprel, 0x5F, 44 R298. -/
  | bbr5 (z : Byte) (r : Byte)
  /-- RTS imp, 0x60, 46 R369. -/
  | rts
  /-- ADC zpXI, 0x61, 43 R224. -/
  | adcZpXI (z : Byte)
  /-- ADC zp, 0x65, 43 R224. -/
  | adcZp (z : Byte)
  /-- ADC imm, 0x69, 43 R224. -/
  | adcImm (v : Word)
  /-- ADC abs, 0x6D, 43 R224. -/
  | adcAbs (a : Word)
  /-- ADC zpIY, 0x71, 43 R224. -/
  | adcZpIY (z : Byte)
  /-- ADC zpI, 0x72, 43 R224. -/
  | adcZpI (z : Byte)
  /-- ADC zpX, 0x75, 43 R224. -/
  | adcZpX (z : Byte)
  /-- ADC absY, 0x79, 43 R224. -/
  | adcAbsY (a : Word)
  /-- ADC absX, 0x7D, 43 R224. -/
  | adcAbsX (a : Word)
  /-- STZ zp, 0x64, 42 R178. -/
  | stzZp (z : Byte)
  /-- STZ zpX, 0x74, 42 R178. -/
  | stzZpX (z : Byte)
  /-- STZ abs, 0x9C, 42 R178. -/
  | stzAbs (a : Word)
  /-- STZ absX, 0x9E, 42 R178. -/
  | stzAbsX (a : Word)
  /-- ROR zp, 0x66, 44 R265. -/
  | rorZp (z : Byte)
  /-- ROR acc, 0x6A, 44 R265. -/
  | rorAcc
  /-- ROR abs, 0x6E, 44 R265. -/
  | rorAbs (a : Word)
  /-- ROR zpX, 0x76, 44 R265. -/
  | rorZpX (z : Byte)
  /-- ROR absX, 0x7E, 44 R265. -/
  | rorAbsX (a : Word)
  /-- RMB6 zp, 0x67, 44 R283. -/
  | rmb6 (z : Byte)
  /-- PLA imp, 0x68, 45 R320. -/
  | pla
  /-- BBR6 zprel, 0x6F, 44 R299. -/
  | bbr6 (z : Byte) (r : Byte)
  /-- BVS rel, 0x70, 46 R345. -/
  | bvsRel (r : Byte)
  /-- BVS rel16, ⟨IND⟩ 0x70, 46 R341. -/
  | bvsRel16 (r : Word)
  /-- RMB7 zp, 0x77, 44 R284. -/
  | rmb7 (z : Byte)
  /-- SEI imp, 0x78, 46 R376. -/
  | sei
  /-- PLY imp, 0x7A, 45 R322. -/
  | ply
  /-- BBR7 zprel, 0x7F, 44 R300. -/
  | bbr7 (z : Byte) (r : Byte)
  /-- BRA rel, 0x80, 46 R350. -/
  | braRel (r : Byte)
  /-- BRA rel16, ⟨IND⟩ 0x80, 46 R341. -/
  | braRel16 (r : Word)
  /-- STA zpXI, 0x81, 42 R175. -/
  | staZpXI (z : Byte)
  /-- STA zp, 0x85, 42 R175. -/
  | staZp (z : Byte)
  /-- STA abs, 0x8D, 42 R175. -/
  | staAbs (a : Word)
  /-- STA zpIY, 0x91, 42 R175. -/
  | staZpIY (z : Byte)
  /-- STA zpI, 0x92, 42 R175. -/
  | staZpI (z : Byte)
  /-- STA zpX, 0x95, 42 R175. -/
  | staZpX (z : Byte)
  /-- STA absY, 0x99, 42 R175. -/
  | staAbsY (a : Word)
  /-- STA absX, 0x9D, 42 R175. -/
  | staAbsX (a : Word)
  /-- STY zp, 0x84, 42 R177. -/
  | styZp (z : Byte)
  /-- STY abs, 0x8C, 42 R177. -/
  | styAbs (a : Word)
  /-- STY zpX, 0x94, 42 R177. -/
  | styZpX (z : Byte)
  /-- STX zp, 0x86, 42 R176. -/
  | stxZp (z : Byte)
  /-- STX abs, 0x8E, 42 R176. -/
  | stxAbs (a : Word)
  /-- STX zpY, 0x96, 42 R176. -/
  | stxZpY (z : Byte)
  /-- SMB0 zp, 0x87, 44 R285. -/
  | smb0 (z : Byte)
  /-- DEY imp, 0x88, 44 R271. -/
  | dey
  /-- TXA imp, 0x8A, 42 R181. -/
  | txa
  /-- BBS0 zprel, 0x8F, 44 R301. -/
  | bbs0 (z : Byte) (r : Byte)
  /-- BCC rel, 0x90, 46 R346. -/
  | bccRel (r : Byte)
  /-- BCC rel16, ⟨IND⟩ 0x90, 46 R341. -/
  | bccRel16 (r : Word)
  /-- SMB1 zp, 0x97, 44 R286. -/
  | smb1 (z : Byte)
  /-- TYA imp, 0x98, 42 R182. -/
  | tya
  /-- TXS imp, 0x9A, 42 R190. -/
  | txs
  /-- BBS1 zprel, 0x9F, 44 R302. -/
  | bbs1 (z : Byte) (r : Byte)
  /-- LDY imm, 0xA0, 42 R174. -/
  | ldyImm (v : Word)
  /-- LDY zp, 0xA4, 42 R174. -/
  | ldyZp (z : Byte)
  /-- LDY abs, 0xAC, 42 R174. -/
  | ldyAbs (a : Word)
  /-- LDY zpX, 0xB4, 42 R174. -/
  | ldyZpX (z : Byte)
  /-- LDY absX, 0xBC, 42 R174. -/
  | ldyAbsX (a : Word)
  /-- LDA zpXI, 0xA1, 42 R172. -/
  | ldaZpXI (z : Byte)
  /-- LDA zp, 0xA5, 42 R172. -/
  | ldaZp (z : Byte)
  /-- LDA imm, 0xA9, 42 R172. -/
  | ldaImm (v : Word)
  /-- LDA abs, 0xAD, 42 R172. -/
  | ldaAbs (a : Word)
  /-- LDA zpIY, 0xB1, 42 R172. -/
  | ldaZpIY (z : Byte)
  /-- LDA zpI, 0xB2, 42 R172. -/
  | ldaZpI (z : Byte)
  /-- LDA zpX, 0xB5, 42 R172. -/
  | ldaZpX (z : Byte)
  /-- LDA absY, 0xB9, 42 R172. -/
  | ldaAbsY (a : Word)
  /-- LDA absX, 0xBD, 42 R172. -/
  | ldaAbsX (a : Word)
  /-- LDX imm, 0xA2, 42 R173. -/
  | ldxImm (v : Word)
  /-- LDX zp, 0xA6, 42 R173. -/
  | ldxZp (z : Byte)
  /-- LDX abs, 0xAE, 42 R173. -/
  | ldxAbs (a : Word)
  /-- LDX zpY, 0xB6, 42 R173. -/
  | ldxZpY (z : Byte)
  /-- LDX absY, 0xBE, 42 R173. -/
  | ldxAbsY (a : Word)
  /-- SMB2 zp, 0xA7, 44 R287. -/
  | smb2 (z : Byte)
  /-- TAY imp, 0xA8, 42 R180. -/
  | tay
  /-- TAX imp, 0xAA, 42 R179. -/
  | tax
  /-- BBS2 zprel, 0xAF, 44 R303. -/
  | bbs2 (z : Byte) (r : Byte)
  /-- BCS rel, 0xB0, 46 R347. -/
  | bcsRel (r : Byte)
  /-- BCS rel16, ⟨IND⟩ 0xB0, 46 R341. -/
  | bcsRel16 (r : Word)
  /-- SMB3 zp, 0xB7, 44 R288. -/
  | smb3 (z : Byte)
  /-- CLV imp, 0xB8, 46 R377. -/
  | clv
  /-- TSX imp, 0xBA, 42 R191. -/
  | tsx
  /-- BBS3 zprel, 0xBF, 44 R304. -/
  | bbs3 (z : Byte) (r : Byte)
  /-- CPY imm, 0xC0, 43 R232. -/
  | cpyImm (v : Word)
  /-- CPY zp, 0xC4, 43 R232. -/
  | cpyZp (z : Byte)
  /-- CPY abs, 0xCC, 43 R232. -/
  | cpyAbs (a : Word)
  /-- CMP zpXI, 0xC1, 43 R230. -/
  | cmpZpXI (z : Byte)
  /-- CMP zp, 0xC5, 43 R230. -/
  | cmpZp (z : Byte)
  /-- CMP imm, 0xC9, 43 R230. -/
  | cmpImm (v : Word)
  /-- CMP abs, 0xCD, 43 R230. -/
  | cmpAbs (a : Word)
  /-- CMP zpIY, 0xD1, 43 R230. -/
  | cmpZpIY (z : Byte)
  /-- CMP zpI, 0xD2, 43 R230. -/
  | cmpZpI (z : Byte)
  /-- CMP zpX, 0xD5, 43 R230. -/
  | cmpZpX (z : Byte)
  /-- CMP absY, 0xD9, 43 R230. -/
  | cmpAbsY (a : Word)
  /-- CMP absX, 0xDD, 43 R230. -/
  | cmpAbsX (a : Word)
  /-- SMB4 zp, 0xC7, 44 R289. -/
  | smb4 (z : Byte)
  /-- INY imp, 0xC8, 44 R269. -/
  | iny
  /-- DEX imp, 0xCA, 44 R270. -/
  | dex
  /-- BBS4 zprel, 0xCF, 44 R305. -/
  | bbs4 (z : Byte) (r : Byte)
  /-- BNE rel, 0xD0, 46 R348. -/
  | bneRel (r : Byte)
  /-- BNE rel16, ⟨IND⟩ 0xD0, 46 R341. -/
  | bneRel16 (r : Word)
  /-- SMB5 zp, 0xD7, 44 R290. -/
  | smb5 (z : Byte)
  /-- CLD imp, 0xD8, 46 R378. -/
  | cld
  /-- PHX imp, 0xDA, 45 R316. -/
  | phx
  /-- BBS5 zprel, 0xDF, 44 R306. -/
  | bbs5 (z : Byte) (r : Byte)
  /-- CPX imm, 0xE0, 43 R231. -/
  | cpxImm (v : Word)
  /-- CPX zp, 0xE4, 43 R231. -/
  | cpxZp (z : Byte)
  /-- CPX abs, 0xEC, 43 R231. -/
  | cpxAbs (a : Word)
  /-- SBC zpXI, 0xE1, 43 R225. -/
  | sbcZpXI (z : Byte)
  /-- SBC zp, 0xE5, 43 R225. -/
  | sbcZp (z : Byte)
  /-- SBC imm, 0xE9, 43 R225. -/
  | sbcImm (v : Word)
  /-- SBC abs, 0xED, 43 R225. -/
  | sbcAbs (a : Word)
  /-- SBC zpIY, 0xF1, 43 R225. -/
  | sbcZpIY (z : Byte)
  /-- SBC zpI, 0xF2, 43 R225. -/
  | sbcZpI (z : Byte)
  /-- SBC zpX, 0xF5, 43 R225. -/
  | sbcZpX (z : Byte)
  /-- SBC absY, 0xF9, 43 R225. -/
  | sbcAbsY (a : Word)
  /-- SBC absX, 0xFD, 43 R225. -/
  | sbcAbsX (a : Word)
  /-- SMB6 zp, 0xE7, 44 R291. -/
  | smb6 (z : Byte)
  /-- INX imp, 0xE8, 44 R268. -/
  | inx
  /-- NOP imp, 0xEA, 46 R372. -/
  | nop
  /-- BBS6 zprel, 0xEF, 44 R307. -/
  | bbs6 (z : Byte) (r : Byte)
  /-- BEQ rel, 0xF0, 46 R349. -/
  | beqRel (r : Byte)
  /-- BEQ rel16, ⟨IND⟩ 0xF0, 46 R341. -/
  | beqRel16 (r : Word)
  /-- SMB7 zp, 0xF7, 44 R292. -/
  | smb7 (z : Byte)
  /-- SED imp, 0xF8, 46 R379. -/
  | sed
  /-- PLX imp, 0xFA, 45 R321. -/
  | plx
  /-- BBS7 zprel, 0xFF, 44 R308. -/
  | bbs7 (z : Byte) (r : Byte)
  /-- ASR acc, ⟨ISZ⟩ 0x4A, 44 R276. -/
  | asr
  /-- OSX imp, ⟨OSX⟩, 41 R161. -/
  | osx
  /-- IND imp, ⟨IND⟩, 41 R162. -/
  | ind
  /-- SIZ imp, ⟨SIZ⟩, 41 R163. -/
  | siz
  /-- OAX imp, ⟨OAX⟩, 41 R164. -/
  | oax
  /-- OAY imp, ⟨OAY⟩, 41 R165. -/
  | oay
  /-- OSZ imp, ⟨OSZ⟩, 41 R166. -/
  | osz
  /-- OIS imp, ⟨OIS⟩, 41 R167. -/
  | ois
  /-- ISZ imp, ⟨ISZ⟩, 41 R168. -/
  | isz
  /-- DUP imp, ⟨DUP⟩, 45 R325. -/
  | dup
  /-- SWP imp, ⟨SWP⟩, 45 R326. -/
  | swp
  /-- ROT imp, ⟨ROT⟩, 45 R327. -/
  | rot
  /-- NXT imp, ⟨NXT⟩, 47 R392. -/
  | nxt
  /-- ENT imp, ⟨ENT⟩, 47 R393. -/
  | ent
  /-- PHI imp, ⟨PHI⟩, 47 R394. -/
  | phi
  /-- PLI imp, ⟨PLI⟩, 47 R395. -/
  | pli
  /-- INI imp, ⟨INI⟩, 47 R396. -/
  | ini
deriving DecidableEq, Repr

end Sys2Proof
end

