-- ==== Sys2Proof/Machine/Bits.lean ====
section
/-! DEFINITION. Bit fields, byte order, extension and the operation width (00_scope.md R9, R10; 20_memory.md R67). -/

namespace Sys2Proof

/-- `(hi << 8) | lo` (00_scope.md R9). -/
def mkWord (hi lo : Byte) : Word := hi ++ lo

/-- `v[7:0]`. -/
def loByte (v : Word) : Byte := v.setWidth 8

/-- `v[15:8]`. -/
def hiByte (v : Word) : Byte := (v >>> 8).setWidth 8

/-- `zext_16`. -/
def zext (b : Byte) : Word := b.setWidth 16

/-- `sext_16` (00_scope.md R9). -/
def sext (b : Byte) : Word := b.signExtend 16

/-- The number of bits of the width. -/
def Width.bits : Width → Nat
  | .byte => 8
  | .word => 16

/-- `W / 8`, the number of bytes of the width. -/
def Width.bytes : Width → Nat
  | .byte => 1
  | .word => 2

/-- `v & mask(W)` (00_scope.md R10). -/
def maskW (W : Width) (v : Word) : Word :=
  match W with
  | .byte => zext (loByte v)
  | .word => v

/-- `v[msb(W)]` (00_scope.md R10). -/
def msbW (W : Width) (v : Word) : Bool := v.getLsbD (W.bits - 1)

/-- `(b & 0xFF00) | ((b + o) & 0xFF)`: addition confined to the page of `b` (40_addressing.md R139 `pg`). -/
def pageAdd (b o : Word) : Word := (b &&& 0xFF00#16) ||| ((b + o) &&& 0x00FF#16)

end Sys2Proof
end

