-- ==== Sys2Proof/Config.lean ====
section
/-! DEFINITION. The implementation parameters of 00_scope.md R8. Those with a reference value are fields of `Config`;
the cycle counts, which the spec leaves OPEN (D38), are opaque constants. -/

namespace Sys2Proof

/-- BYTE_WRITE_HIGH: what a byte write leaves in bits 15:8 of a slot (D2). -/
inductive ByteWriteHigh where
  | zero
  | preserve
deriving DecidableEq, Repr

/-- TRAP_STACK_ORDER: which stack the trap frame uses (D6). -/
inductive TrapStackOrder where
  | kernelFirst
  | literal
deriving DecidableEq, Repr

/-- A PC distance of 1 or 2: BRK_RETURN_OFFSET (D11), UNIMPL_ADVANCE (D12). -/
inductive OneOrTwo where
  | one
  | two
deriving DecidableEq, Repr

/-- The distance as a word. -/
def OneOrTwo.toWord : OneOrTwo → Word
  | .one => 1#16
  | .two => 2#16

/-- OIS_FLAGS: the flags OIS sets (D16). -/
inductive OisFlags where
  | osxIndSiz
  | osxInd
deriving DecidableEq, Repr

/-- DEC_NZ_SOURCE: where decimal-mode N and Z come from (D25). -/
inductive DecNzSource where
  | unadjusted
  | adjusted
deriving DecidableEq, Repr

/-- ASR_FILL: the bit ASR shifts into bit 15 (D28). -/
inductive AsrFill where
  | sign
  | nXorV
deriving DecidableEq, Repr

/-- The configuration (00_scope.md R8, 70_reset_and_hazards.md R474): fixed for a machine, written by no instruction. -/
structure Config where
  byteWriteHigh : ByteWriteHigh
  trapStackOrder : TrapStackOrder
  vecNmi : Word
  vecReset : Word
  vecIrq : Word
  brkReturnOffset : OneOrTwo
  unimplAdvance : OneOrTwo
  /-- EXT_OPCODE: the opcode byte of each extension instruction that has one (D15). -/
  extOpcodes : List (ExtOp × Byte)
  /-- IPP_OPS: the slots that hold an ipp-mode operation (D36). -/
  ippOps : List (Byte × IppOp)
  /-- The slots that SLOT_KIND marks `unimplemented` (D13). -/
  unimplementedSlots : List Byte
  oisFlags : OisFlags
  /-- OSX_KEEPS_INDEX (D18). -/
  osxKeepsIndex : Bool
  /-- OSX_REG_REDIRECT (D19). -/
  osxRegRedirect : Bool
  decNzSource : DecNzSource
  asrFill : AsrFill
  resetA : Word
  resetX : Word
  resetY : Word
  resetSp0 : Word
  resetSp1 : Word
  resetIp : Word
  resetWp : Word
  resetP : Byte
  /-- RESET_SEED (D31). -/
  resetSeed : Option Word
deriving DecidableEq, Repr

/-- The reference configuration of 00_scope.md R8. EXT_OPCODE is OPEN, so no slot is assigned (I2, log 3). -/
def Config.reference : Config where
  byteWriteHigh := .zero
  trapStackOrder := .kernelFirst
  vecNmi := 0xFFFA#16
  vecReset := 0xFFFC#16
  vecIrq := 0xFFFE#16
  brkReturnOffset := .two
  unimplAdvance := .two
  extOpcodes := []
  ippOps := []
  unimplementedSlots := []
  oisFlags := .osxIndSiz
  osxKeepsIndex := false
  osxRegRedirect := true
  decNzSource := .unadjusted
  asrFill := .sign
  resetA := 0#16
  resetX := 0#16
  resetY := 0#16
  resetSp0 := 0x00FF#16
  resetSp1 := 0x01FF#16
  resetIp := 0#16
  resetWp := 0#16
  resetP := 0x34#8
  resetSeed := none

/-- CYCLES(op): the base cycle count of the opcode, OPEN (70_reset_and_hazards.md R470, log 4). -/
opaque Config.cyclesOf : Byte → Nat

/-- CYCLES(interrupt): the cycle count of an interrupt entry, OPEN (60_exceptions.md R410, log 4). -/
opaque Config.interruptCycles : Nat

/-- DUMMY_CYCLES(op): the dummy bus cycles of the opcode, OPEN (70_reset_and_hazards.md R470, log 4). -/
opaque Config.dummyCyclesOf : Byte → Nat

end Sys2Proof
end

