-- ==== Sys2Proof/WellFormed.lean ====
section
/-! DEFINITION. The free opcode slots, the admitted configurations, and the instructions that have an encoding under
a configuration and a PrefixState. -/

namespace Sys2Proof

/-- The 46 slots outside the base map, in the order of 30_encoding.md R92. -/
def freeSlots : List Byte :=
  [0x02, 0x03, 0x0B, 0x13, 0x1B, 0x22, 0x23, 0x2B, 0x33, 0x3B, 0x42, 0x43, 0x44, 0x4B, 0x53, 0x54] ++
  [0x5B, 0x5C, 0x62, 0x63, 0x6B, 0x73, 0x7B, 0x82, 0x83, 0x8B, 0x93, 0x9B, 0xA3, 0xAB, 0xB3, 0xBB] ++
  [0xC2, 0xC3, 0xCB, 0xD3, 0xD4, 0xDB, 0xDC, 0xE2, 0xE3, 0xEB, 0xF3, 0xF4, 0xFB, 0xFC]

/-- No element occurs twice. -/
def distinct {α : Type} [DecidableEq α] : List α → Bool
  | [] => true
  | x :: xs => !xs.contains x && distinct xs

/-- An admitted configuration (30_encoding.md R94, R95, R97): the slots that EXT_OPCODE, IPP_OPS and the mark
`unimplemented` use are among the 46 and no slot is used twice; no extension instruction has two opcodes. -/
def Config.wf (cfg : Config) : Bool :=
  let slots := cfg.extOpcodes.map Prod.snd ++ cfg.ippOps.map Prod.fst ++ cfg.unimplementedSlots
  slots.all (fun op => freeSlots.contains op) && distinct slots && distinct (cfg.extOpcodes.map Prod.fst)

/-- The opcode that EXT_OPCODE assigns to the extension instruction, if any (30_encoding.md R93). -/
def Config.extOpcode (cfg : Config) (e : ExtOp) : Option Byte :=
  (cfg.extOpcodes.find? (fun p => p.1 = e)).map Prod.snd

/-- An immediate fits the operand bytes that PrefixState gives it (30_encoding.md R88). -/
def immFits (ps : PrefixState) (v : Word) : Bool := ps.siz || v.toNat < 256

/-- The instruction has an encoding that is read back as itself under `cfg` and `ps` (30_encoding.md R88, R93;
44_rmw_bit.md R276): a byte-wide immediate fits a byte; a branch has the offset width that `ind` selects; `LSR A` is
ASR exactly when `ind` and `siz` are set; an extension instruction has an opcode. -/
def Instr.wf (cfg : Config) (ps : PrefixState) : Instr → Bool
  | .brk | .oraZpXI _ | .tsbZp _ | .oraZp _ | .aslZp _ | .rmb0 _ | .php | .aslAcc | .tsbAbs _ | .oraAbs _
  | .aslAbs _ | .bbr0 _ _ | .oraZpIY _ | .oraZpI _ | .trbZp _ | .oraZpX _ | .aslZpX _ | .rmb1 _ | .clc | .oraAbsY _
  | .incAcc | .trbAbs _ | .oraAbsX _ | .aslAbsX _ | .bbr1 _ _ | .jsr _ | .andZpXI _ | .bitZp _ | .andZp _
  | .rolZp _ | .rmb2 _ | .plp | .rolAcc | .bitAbs _ | .andAbs _ | .rolAbs _ | .bbr2 _ _ | .andZpIY _ | .andZpI _
  | .bitZpX _ | .andZpX _ | .rolZpX _ | .rmb3 _ | .sec | .andAbsY _ | .decAcc | .bitAbsX _ | .andAbsX _
  | .rolAbsX _ | .bbr3 _ _ | .rti | .eorZpXI _ | .eorZp _ | .lsrZp _ | .rmb4 _ | .pha | .jmpAbs _ | .eorAbs _
  | .lsrAbs _ | .bbr4 _ _ | .eorZpIY _ | .eorZpI _ | .eorZpX _ | .lsrZpX _ | .rmb5 _ | .cli | .eorAbsY _ | .phy
  | .eorAbsX _ | .lsrAbsX _ | .bbr5 _ _ | .rts | .adcZpXI _ | .stzZp _ | .adcZp _ | .rorZp _ | .rmb6 _ | .pla
  | .rorAcc | .jmpAbsI _ | .adcAbs _ | .rorAbs _ | .bbr6 _ _ | .adcZpIY _ | .adcZpI _ | .stzZpX _ | .adcZpX _
  | .rorZpX _ | .rmb7 _ | .sei | .adcAbsY _ | .ply | .jmpAbsXI _ | .adcAbsX _ | .rorAbsX _ | .bbr7 _ _ | .staZpXI _
  | .styZp _ | .staZp _ | .stxZp _ | .smb0 _ | .dey | .txa | .styAbs _ | .staAbs _ | .stxAbs _ | .bbs0 _ _
  | .staZpIY _ | .staZpI _ | .styZpX _ | .staZpX _ | .stxZpY _ | .smb1 _ | .tya | .staAbsY _ | .txs | .stzAbs _
  | .staAbsX _ | .stzAbsX _ | .bbs1 _ _ | .ldaZpXI _ | .ldyZp _ | .ldaZp _ | .ldxZp _ | .smb2 _ | .tay | .tax
  | .ldyAbs _ | .ldaAbs _ | .ldxAbs _ | .bbs2 _ _ | .ldaZpIY _ | .ldaZpI _ | .ldyZpX _ | .ldaZpX _ | .ldxZpY _
  | .smb3 _ | .clv | .ldaAbsY _ | .tsx | .ldyAbsX _ | .ldaAbsX _ | .ldxAbsY _ | .bbs3 _ _ | .cmpZpXI _ | .cpyZp _
  | .cmpZp _ | .decZp _ | .smb4 _ | .iny | .dex | .cpyAbs _ | .cmpAbs _ | .decAbs _ | .bbs4 _ _ | .cmpZpIY _
  | .cmpZpI _ | .cmpZpX _ | .decZpX _ | .smb5 _ | .cld | .cmpAbsY _ | .phx | .cmpAbsX _ | .decAbsX _ | .bbs5 _ _
  | .sbcZpXI _ | .cpxZp _ | .sbcZp _ | .incZp _ | .smb6 _ | .inx | .nop | .cpxAbs _ | .sbcAbs _ | .incAbs _
  | .bbs6 _ _ | .sbcZpIY _ | .sbcZpI _ | .sbcZpX _ | .incZpX _ | .smb7 _ | .sed | .sbcAbsY _ | .plx | .sbcAbsX _
  | .incAbsX _ | .bbs7 _ _ => true
  | .oraImm v | .andImm v | .eorImm v | .adcImm v | .bitImm v | .ldyImm v | .ldxImm v | .ldaImm v | .cpyImm v
  | .cmpImm v | .cpxImm v | .sbcImm v => immFits ps v
  | .bplRel _ | .bmiRel _ | .bvcRel _ | .bvsRel _ | .braRel _ | .bccRel _ | .bcsRel _ | .bneRel _ | .beqRel _ => !ps.ind
  | .lsrAcc => !(ps.ind && ps.siz)
  | .bplRel16 _ | .bmiRel16 _ | .bvcRel16 _ | .bvsRel16 _ | .bccRel16 _ | .bcsRel16 _ | .bneRel16 _ | .beqRel16 _
  | .braRel16 _ => ps.ind
  | .asr => ps.ind && ps.siz
  | .osx => (cfg.extOpcode .osx).isSome
  | .ind => (cfg.extOpcode .ind).isSome
  | .siz => (cfg.extOpcode .siz).isSome
  | .oax => (cfg.extOpcode .oax).isSome
  | .oay => (cfg.extOpcode .oay).isSome
  | .osz => (cfg.extOpcode .osz).isSome
  | .ois => (cfg.extOpcode .ois).isSome
  | .isz => (cfg.extOpcode .isz).isSome
  | .dup => (cfg.extOpcode .dup).isSome
  | .swp => (cfg.extOpcode .swp).isSome
  | .rot => (cfg.extOpcode .rot).isSome
  | .nxt => (cfg.extOpcode .nxt).isSome
  | .ent => (cfg.extOpcode .ent).isSome
  | .phi => (cfg.extOpcode .phi).isSome
  | .pli => (cfg.extOpcode .pli).isSome
  | .ini => (cfg.extOpcode .ini).isSome

end Sys2Proof
end

