-- ==== Sys2Proof/Decode.lean ====
section
/-! DEFINITION. The decoder and the encoder: the dispatch table's base map (30_encoding.md R91), the operand bytes of
each mode (R86, R88), the slots outside the map (R93 to R98). -/

namespace Sys2Proof

/-- How the bytes after an opcode become an instruction (30_encoding.md R86, R88). -/
inductive Entry where
  /-- imp and acc: no operand byte. -/
  | one (i : Instr)
  /-- LSR acc, which is ASR when ind and siz are set (44_rmw_bit.md R276). -/
  | lsrA (plain arith : Instr)
  /-- imm: one byte, or two under siz. -/
  | imm (f : Word → Instr)
  /-- the zero-page modes: one byte. -/
  | byte (f : Byte → Instr)
  /-- the absolute modes: two bytes, low first. -/
  | word (f : Word → Instr)
  /-- rel, or rel16 under ind. -/
  | rel (f : Byte → Instr) (g : Word → Instr)
  /-- zprel: a zero-page byte and an offset byte. -/
  | zprel (f : Byte → Byte → Instr)

/-- Row 0 of the base opcode map (30_encoding.md R91). -/
def opcodeRow0 : List (Option Entry) :=
  [some (.one .brk), some (.byte .oraZpXI), none, none, some (.byte .tsbZp), some (.byte .oraZp),
   some (.byte .aslZp), some (.byte .rmb0), some (.one .php), some (.imm .oraImm), some (.one .aslAcc), none,
   some (.word .tsbAbs), some (.word .oraAbs), some (.word .aslAbs), some (.zprel .bbr0)]

/-- Row 1 of the base opcode map (30_encoding.md R91). -/
def opcodeRow1 : List (Option Entry) :=
  [some (.rel .bplRel .bplRel16), some (.byte .oraZpIY), some (.byte .oraZpI), none, some (.byte .trbZp),
   some (.byte .oraZpX), some (.byte .aslZpX), some (.byte .rmb1), some (.one .clc), some (.word .oraAbsY),
   some (.one .incAcc), none, some (.word .trbAbs), some (.word .oraAbsX), some (.word .aslAbsX),
   some (.zprel .bbr1)]

/-- Row 2 of the base opcode map (30_encoding.md R91). -/
def opcodeRow2 : List (Option Entry) :=
  [some (.word .jsr), some (.byte .andZpXI), none, none, some (.byte .bitZp), some (.byte .andZp),
   some (.byte .rolZp), some (.byte .rmb2), some (.one .plp), some (.imm .andImm), some (.one .rolAcc), none,
   some (.word .bitAbs), some (.word .andAbs), some (.word .rolAbs), some (.zprel .bbr2)]

/-- Row 3 of the base opcode map (30_encoding.md R91). -/
def opcodeRow3 : List (Option Entry) :=
  [some (.rel .bmiRel .bmiRel16), some (.byte .andZpIY), some (.byte .andZpI), none, some (.byte .bitZpX),
   some (.byte .andZpX), some (.byte .rolZpX), some (.byte .rmb3), some (.one .sec), some (.word .andAbsY),
   some (.one .decAcc), none, some (.word .bitAbsX), some (.word .andAbsX), some (.word .rolAbsX),
   some (.zprel .bbr3)]

/-- Row 4 of the base opcode map (30_encoding.md R91). -/
def opcodeRow4 : List (Option Entry) :=
  [some (.one .rti), some (.byte .eorZpXI), none, none, none, some (.byte .eorZp), some (.byte .lsrZp),
   some (.byte .rmb4), some (.one .pha), some (.imm .eorImm), some (.lsrA .lsrAcc .asr), none,
   some (.word .jmpAbs), some (.word .eorAbs), some (.word .lsrAbs), some (.zprel .bbr4)]

/-- Row 5 of the base opcode map (30_encoding.md R91). -/
def opcodeRow5 : List (Option Entry) :=
  [some (.rel .bvcRel .bvcRel16), some (.byte .eorZpIY), some (.byte .eorZpI), none, none,
   some (.byte .eorZpX), some (.byte .lsrZpX), some (.byte .rmb5), some (.one .cli), some (.word .eorAbsY),
   some (.one .phy), none, none, some (.word .eorAbsX), some (.word .lsrAbsX), some (.zprel .bbr5)]

/-- Row 6 of the base opcode map (30_encoding.md R91). -/
def opcodeRow6 : List (Option Entry) :=
  [some (.one .rts), some (.byte .adcZpXI), none, none, some (.byte .stzZp), some (.byte .adcZp),
   some (.byte .rorZp), some (.byte .rmb6), some (.one .pla), some (.imm .adcImm), some (.one .rorAcc), none,
   some (.word .jmpAbsI), some (.word .adcAbs), some (.word .rorAbs), some (.zprel .bbr6)]

/-- Row 7 of the base opcode map (30_encoding.md R91). -/
def opcodeRow7 : List (Option Entry) :=
  [some (.rel .bvsRel .bvsRel16), some (.byte .adcZpIY), some (.byte .adcZpI), none, some (.byte .stzZpX),
   some (.byte .adcZpX), some (.byte .rorZpX), some (.byte .rmb7), some (.one .sei), some (.word .adcAbsY),
   some (.one .ply), none, some (.word .jmpAbsXI), some (.word .adcAbsX), some (.word .rorAbsX),
   some (.zprel .bbr7)]

/-- Row 8 of the base opcode map (30_encoding.md R91). -/
def opcodeRow8 : List (Option Entry) :=
  [some (.rel .braRel .braRel16), some (.byte .staZpXI), none, none, some (.byte .styZp), some (.byte .staZp),
   some (.byte .stxZp), some (.byte .smb0), some (.one .dey), some (.imm .bitImm), some (.one .txa), none,
   some (.word .styAbs), some (.word .staAbs), some (.word .stxAbs), some (.zprel .bbs0)]

/-- Row 9 of the base opcode map (30_encoding.md R91). -/
def opcodeRow9 : List (Option Entry) :=
  [some (.rel .bccRel .bccRel16), some (.byte .staZpIY), some (.byte .staZpI), none, some (.byte .styZpX),
   some (.byte .staZpX), some (.byte .stxZpY), some (.byte .smb1), some (.one .tya), some (.word .staAbsY),
   some (.one .txs), none, some (.word .stzAbs), some (.word .staAbsX), some (.word .stzAbsX),
   some (.zprel .bbs1)]

/-- Row A of the base opcode map (30_encoding.md R91). -/
def opcodeRowA : List (Option Entry) :=
  [some (.imm .ldyImm), some (.byte .ldaZpXI), some (.imm .ldxImm), none, some (.byte .ldyZp),
   some (.byte .ldaZp), some (.byte .ldxZp), some (.byte .smb2), some (.one .tay), some (.imm .ldaImm),
   some (.one .tax), none, some (.word .ldyAbs), some (.word .ldaAbs), some (.word .ldxAbs),
   some (.zprel .bbs2)]

/-- Row B of the base opcode map (30_encoding.md R91). -/
def opcodeRowB : List (Option Entry) :=
  [some (.rel .bcsRel .bcsRel16), some (.byte .ldaZpIY), some (.byte .ldaZpI), none, some (.byte .ldyZpX),
   some (.byte .ldaZpX), some (.byte .ldxZpY), some (.byte .smb3), some (.one .clv), some (.word .ldaAbsY),
   some (.one .tsx), none, some (.word .ldyAbsX), some (.word .ldaAbsX), some (.word .ldxAbsY),
   some (.zprel .bbs3)]

/-- Row C of the base opcode map (30_encoding.md R91). -/
def opcodeRowC : List (Option Entry) :=
  [some (.imm .cpyImm), some (.byte .cmpZpXI), none, none, some (.byte .cpyZp), some (.byte .cmpZp),
   some (.byte .decZp), some (.byte .smb4), some (.one .iny), some (.imm .cmpImm), some (.one .dex), none,
   some (.word .cpyAbs), some (.word .cmpAbs), some (.word .decAbs), some (.zprel .bbs4)]

/-- Row D of the base opcode map (30_encoding.md R91). -/
def opcodeRowD : List (Option Entry) :=
  [some (.rel .bneRel .bneRel16), some (.byte .cmpZpIY), some (.byte .cmpZpI), none, none,
   some (.byte .cmpZpX), some (.byte .decZpX), some (.byte .smb5), some (.one .cld), some (.word .cmpAbsY),
   some (.one .phx), none, none, some (.word .cmpAbsX), some (.word .decAbsX), some (.zprel .bbs5)]

/-- Row E of the base opcode map (30_encoding.md R91). -/
def opcodeRowE : List (Option Entry) :=
  [some (.imm .cpxImm), some (.byte .sbcZpXI), none, none, some (.byte .cpxZp), some (.byte .sbcZp),
   some (.byte .incZp), some (.byte .smb6), some (.one .inx), some (.imm .sbcImm), some (.one .nop), none,
   some (.word .cpxAbs), some (.word .sbcAbs), some (.word .incAbs), some (.zprel .bbs6)]

/-- Row F of the base opcode map (30_encoding.md R91). -/
def opcodeRowF : List (Option Entry) :=
  [some (.rel .beqRel .beqRel16), some (.byte .sbcZpIY), some (.byte .sbcZpI), none, none,
   some (.byte .sbcZpX), some (.byte .incZpX), some (.byte .smb7), some (.one .sed), some (.word .sbcAbsY),
   some (.one .plx), none, none, some (.word .sbcAbsX), some (.word .incAbsX), some (.zprel .bbs7)]

/-- The base opcode map, row by high nibble, column by low nibble (30_encoding.md R91). -/
def opcodeMap : List (List (Option Entry)) :=
  [opcodeRow0, opcodeRow1, opcodeRow2, opcodeRow3, opcodeRow4, opcodeRow5, opcodeRow6, opcodeRow7] ++
  [opcodeRow8, opcodeRow9, opcodeRowA, opcodeRowB, opcodeRowC, opcodeRowD, opcodeRowE, opcodeRowF]

/-- The dispatch entry of a base opcode; none in the 46 slots outside the map (30_encoding.md R90, R92). -/
def baseEntry (op : Byte) : Option Entry :=
  ((opcodeMap.getD (op.toNat / 16) []).getD (op.toNat % 16) none)

/-- The instruction an extension name stands for (30_encoding.md R93). -/
def ExtOp.instr : ExtOp → Instr
  | .osx => .osx
  | .ind => .ind
  | .siz => .siz
  | .oax => .oax
  | .oay => .oay
  | .osz => .osz
  | .ois => .ois
  | .isz => .isz
  | .dup => .dup
  | .swp => .swp
  | .rot => .rot
  | .nxt => .nxt
  | .ent => .ent
  | .phi => .phi
  | .pli => .pli
  | .ini => .ini

/-- SLOT_KIND of a slot outside the base map (30_encoding.md R97). -/
inductive SlotKind where
  | ext (e : ExtOp)
  | ipp (o : IppOp)
  | unimplemented
  | refused
deriving DecidableEq, Repr

/-- The classification of a slot outside the base map by the configuration (30_encoding.md R97, R98). -/
def slotKind (cfg : Config) (op : Byte) : SlotKind :=
  match cfg.extOpcodes.find? (fun p => p.2 = op) with
  | some (e, _) => .ext e
  | none =>
    match cfg.ippOps.find? (fun p => p.1 = op) with
    | some (_, o) => .ipp o
    | none => if cfg.unimplementedSlots.contains op then .unimplemented else .refused

/-- Why bytes are no instruction. -/
inductive DecodeError where
  /-- The bytes end before the instruction does. -/
  | truncated
  /-- A slot that the configuration leaves refused (30_encoding.md R98). -/
  | unassignedSlot (op : Byte)
deriving DecidableEq, Repr

/-- What the bytes at PC are: an instruction of the opcode table, an ipp-mode operation of IPP_OPS, or a slot whose
dispatch entry is the default one. -/
inductive Decoded where
  | instr (i : Instr)
  | ipp (o : IppOp)
  | unimplemented
deriving DecidableEq, Repr

/-- The operand bytes of an entry, read under PrefixState (30_encoding.md R86, R88): the instruction and the bytes
after it, or none where the bytes end too early. -/
def decodeOperand (ps : PrefixState) (e : Entry) (rest : List Byte) : Option (Instr × List Byte) :=
  match e, rest with
  | .one i, rest => some (i, rest)
  | .lsrA i j, rest => some (if ps.ind && ps.siz then j else i, rest)
  | .imm f, lo :: rest =>
    if ps.siz then
      match rest with
      | hi :: rest => some (f (mkWord hi lo), rest)
      | [] => none
    else some (f (zext lo), rest)
  | .byte f, z :: rest => some (f z, rest)
  | .word f, lo :: hi :: rest => some (f (mkWord hi lo), rest)
  | .rel f g, lo :: rest =>
    if ps.ind then
      match rest with
      | hi :: rest => some (g (mkWord hi lo), rest)
      | [] => none
    else some (f lo, rest)
  | .zprel f, z :: r :: rest => some (f z r, rest)
  | _, _ => none

/-- The decoder: what the bytes hold under the configuration and PrefixState, and the bytes after it
(30_encoding.md R85 to R98). -/
def decode (cfg : Config) (ps : PrefixState) : List Byte → Except DecodeError (Decoded × List Byte)
  | [] => .error .truncated
  | op :: rest =>
    match baseEntry op with
    | some e =>
      match decodeOperand ps e rest with
      | some (i, rest) => .ok (.instr i, rest)
      | none => .error .truncated
    | none =>
      match slotKind cfg op with
      | .ext e => .ok (.instr e.instr, rest)
      | .ipp o =>
        match rest with
        | _ :: rest => .ok (.ipp o, rest)
        | [] => .error .truncated
      | .unimplemented => .ok (.unimplemented, rest)
      | .refused => .error (.unassignedSlot op)

/-- The operand bytes of an immediate (30_encoding.md R86, R88). -/
def encodeImm (ps : PrefixState) (v : Word) : List Byte :=
  if ps.siz then [loByte v, hiByte v] else [loByte v]

/-- The operand bytes of an absolute operand or a 16-bit offset, low byte first (30_encoding.md R86). -/
def encodeWord (a : Word) : List Byte := [loByte a, hiByte a]

/-- The opcode byte of an extension instruction, if EXT_OPCODE assigns one (30_encoding.md R93). -/
def encodeExt (cfg : Config) (e : ExtOp) : List Byte := (cfg.extOpcode e).toList

/-- The bytes of an instruction under the configuration and PrefixState: opcode, then operand bytes
(30_encoding.md R86, R91, R93). -/
def encode (cfg : Config) (ps : PrefixState) : Instr → List Byte
  | .brk => [0x00#8]
  | .oraZpXI z => [0x01#8, z]
  | .tsbZp z => [0x04#8, z]
  | .oraZp z => [0x05#8, z]
  | .aslZp z => [0x06#8, z]
  | .rmb0 z => [0x07#8, z]
  | .php => [0x08#8]
  | .oraImm v => 0x09#8 :: encodeImm ps v
  | .aslAcc => [0x0A#8]
  | .tsbAbs a => 0x0C#8 :: encodeWord a
  | .oraAbs a => 0x0D#8 :: encodeWord a
  | .aslAbs a => 0x0E#8 :: encodeWord a
  | .bbr0 z r => [0x0F#8, z, r]
  | .bplRel r => [0x10#8, r]
  | .oraZpIY z => [0x11#8, z]
  | .oraZpI z => [0x12#8, z]
  | .trbZp z => [0x14#8, z]
  | .oraZpX z => [0x15#8, z]
  | .aslZpX z => [0x16#8, z]
  | .rmb1 z => [0x17#8, z]
  | .clc => [0x18#8]
  | .oraAbsY a => 0x19#8 :: encodeWord a
  | .incAcc => [0x1A#8]
  | .trbAbs a => 0x1C#8 :: encodeWord a
  | .oraAbsX a => 0x1D#8 :: encodeWord a
  | .aslAbsX a => 0x1E#8 :: encodeWord a
  | .bbr1 z r => [0x1F#8, z, r]
  | .jsr a => 0x20#8 :: encodeWord a
  | .andZpXI z => [0x21#8, z]
  | .bitZp z => [0x24#8, z]
  | .andZp z => [0x25#8, z]
  | .rolZp z => [0x26#8, z]
  | .rmb2 z => [0x27#8, z]
  | .plp => [0x28#8]
  | .andImm v => 0x29#8 :: encodeImm ps v
  | .rolAcc => [0x2A#8]
  | .bitAbs a => 0x2C#8 :: encodeWord a
  | .andAbs a => 0x2D#8 :: encodeWord a
  | .rolAbs a => 0x2E#8 :: encodeWord a
  | .bbr2 z r => [0x2F#8, z, r]
  | .bmiRel r => [0x30#8, r]
  | .andZpIY z => [0x31#8, z]
  | .andZpI z => [0x32#8, z]
  | .bitZpX z => [0x34#8, z]
  | .andZpX z => [0x35#8, z]
  | .rolZpX z => [0x36#8, z]
  | .rmb3 z => [0x37#8, z]
  | .sec => [0x38#8]
  | .andAbsY a => 0x39#8 :: encodeWord a
  | .decAcc => [0x3A#8]
  | .bitAbsX a => 0x3C#8 :: encodeWord a
  | .andAbsX a => 0x3D#8 :: encodeWord a
  | .rolAbsX a => 0x3E#8 :: encodeWord a
  | .bbr3 z r => [0x3F#8, z, r]
  | .rti => [0x40#8]
  | .eorZpXI z => [0x41#8, z]
  | .eorZp z => [0x45#8, z]
  | .lsrZp z => [0x46#8, z]
  | .rmb4 z => [0x47#8, z]
  | .pha => [0x48#8]
  | .eorImm v => 0x49#8 :: encodeImm ps v
  | .lsrAcc => [0x4A#8]
  | .jmpAbs a => 0x4C#8 :: encodeWord a
  | .eorAbs a => 0x4D#8 :: encodeWord a
  | .lsrAbs a => 0x4E#8 :: encodeWord a
  | .bbr4 z r => [0x4F#8, z, r]
  | .bvcRel r => [0x50#8, r]
  | .eorZpIY z => [0x51#8, z]
  | .eorZpI z => [0x52#8, z]
  | .eorZpX z => [0x55#8, z]
  | .lsrZpX z => [0x56#8, z]
  | .rmb5 z => [0x57#8, z]
  | .cli => [0x58#8]
  | .eorAbsY a => 0x59#8 :: encodeWord a
  | .phy => [0x5A#8]
  | .eorAbsX a => 0x5D#8 :: encodeWord a
  | .lsrAbsX a => 0x5E#8 :: encodeWord a
  | .bbr5 z r => [0x5F#8, z, r]
  | .rts => [0x60#8]
  | .adcZpXI z => [0x61#8, z]
  | .stzZp z => [0x64#8, z]
  | .adcZp z => [0x65#8, z]
  | .rorZp z => [0x66#8, z]
  | .rmb6 z => [0x67#8, z]
  | .pla => [0x68#8]
  | .adcImm v => 0x69#8 :: encodeImm ps v
  | .rorAcc => [0x6A#8]
  | .jmpAbsI a => 0x6C#8 :: encodeWord a
  | .adcAbs a => 0x6D#8 :: encodeWord a
  | .rorAbs a => 0x6E#8 :: encodeWord a
  | .bbr6 z r => [0x6F#8, z, r]
  | .bvsRel r => [0x70#8, r]
  | .adcZpIY z => [0x71#8, z]
  | .adcZpI z => [0x72#8, z]
  | .stzZpX z => [0x74#8, z]
  | .adcZpX z => [0x75#8, z]
  | .rorZpX z => [0x76#8, z]
  | .rmb7 z => [0x77#8, z]
  | .sei => [0x78#8]
  | .adcAbsY a => 0x79#8 :: encodeWord a
  | .ply => [0x7A#8]
  | .jmpAbsXI a => 0x7C#8 :: encodeWord a
  | .adcAbsX a => 0x7D#8 :: encodeWord a
  | .rorAbsX a => 0x7E#8 :: encodeWord a
  | .bbr7 z r => [0x7F#8, z, r]
  | .braRel r => [0x80#8, r]
  | .staZpXI z => [0x81#8, z]
  | .styZp z => [0x84#8, z]
  | .staZp z => [0x85#8, z]
  | .stxZp z => [0x86#8, z]
  | .smb0 z => [0x87#8, z]
  | .dey => [0x88#8]
  | .bitImm v => 0x89#8 :: encodeImm ps v
  | .txa => [0x8A#8]
  | .styAbs a => 0x8C#8 :: encodeWord a
  | .staAbs a => 0x8D#8 :: encodeWord a
  | .stxAbs a => 0x8E#8 :: encodeWord a
  | .bbs0 z r => [0x8F#8, z, r]
  | .bccRel r => [0x90#8, r]
  | .staZpIY z => [0x91#8, z]
  | .staZpI z => [0x92#8, z]
  | .styZpX z => [0x94#8, z]
  | .staZpX z => [0x95#8, z]
  | .stxZpY z => [0x96#8, z]
  | .smb1 z => [0x97#8, z]
  | .tya => [0x98#8]
  | .staAbsY a => 0x99#8 :: encodeWord a
  | .txs => [0x9A#8]
  | .stzAbs a => 0x9C#8 :: encodeWord a
  | .staAbsX a => 0x9D#8 :: encodeWord a
  | .stzAbsX a => 0x9E#8 :: encodeWord a
  | .bbs1 z r => [0x9F#8, z, r]
  | .ldyImm v => 0xA0#8 :: encodeImm ps v
  | .ldaZpXI z => [0xA1#8, z]
  | .ldxImm v => 0xA2#8 :: encodeImm ps v
  | .ldyZp z => [0xA4#8, z]
  | .ldaZp z => [0xA5#8, z]
  | .ldxZp z => [0xA6#8, z]
  | .smb2 z => [0xA7#8, z]
  | .tay => [0xA8#8]
  | .ldaImm v => 0xA9#8 :: encodeImm ps v
  | .tax => [0xAA#8]
  | .ldyAbs a => 0xAC#8 :: encodeWord a
  | .ldaAbs a => 0xAD#8 :: encodeWord a
  | .ldxAbs a => 0xAE#8 :: encodeWord a
  | .bbs2 z r => [0xAF#8, z, r]
  | .bcsRel r => [0xB0#8, r]
  | .ldaZpIY z => [0xB1#8, z]
  | .ldaZpI z => [0xB2#8, z]
  | .ldyZpX z => [0xB4#8, z]
  | .ldaZpX z => [0xB5#8, z]
  | .ldxZpY z => [0xB6#8, z]
  | .smb3 z => [0xB7#8, z]
  | .clv => [0xB8#8]
  | .ldaAbsY a => 0xB9#8 :: encodeWord a
  | .tsx => [0xBA#8]
  | .ldyAbsX a => 0xBC#8 :: encodeWord a
  | .ldaAbsX a => 0xBD#8 :: encodeWord a
  | .ldxAbsY a => 0xBE#8 :: encodeWord a
  | .bbs3 z r => [0xBF#8, z, r]
  | .cpyImm v => 0xC0#8 :: encodeImm ps v
  | .cmpZpXI z => [0xC1#8, z]
  | .cpyZp z => [0xC4#8, z]
  | .cmpZp z => [0xC5#8, z]
  | .decZp z => [0xC6#8, z]
  | .smb4 z => [0xC7#8, z]
  | .iny => [0xC8#8]
  | .cmpImm v => 0xC9#8 :: encodeImm ps v
  | .dex => [0xCA#8]
  | .cpyAbs a => 0xCC#8 :: encodeWord a
  | .cmpAbs a => 0xCD#8 :: encodeWord a
  | .decAbs a => 0xCE#8 :: encodeWord a
  | .bbs4 z r => [0xCF#8, z, r]
  | .bneRel r => [0xD0#8, r]
  | .cmpZpIY z => [0xD1#8, z]
  | .cmpZpI z => [0xD2#8, z]
  | .cmpZpX z => [0xD5#8, z]
  | .decZpX z => [0xD6#8, z]
  | .smb5 z => [0xD7#8, z]
  | .cld => [0xD8#8]
  | .cmpAbsY a => 0xD9#8 :: encodeWord a
  | .phx => [0xDA#8]
  | .cmpAbsX a => 0xDD#8 :: encodeWord a
  | .decAbsX a => 0xDE#8 :: encodeWord a
  | .bbs5 z r => [0xDF#8, z, r]
  | .cpxImm v => 0xE0#8 :: encodeImm ps v
  | .sbcZpXI z => [0xE1#8, z]
  | .cpxZp z => [0xE4#8, z]
  | .sbcZp z => [0xE5#8, z]
  | .incZp z => [0xE6#8, z]
  | .smb6 z => [0xE7#8, z]
  | .inx => [0xE8#8]
  | .sbcImm v => 0xE9#8 :: encodeImm ps v
  | .nop => [0xEA#8]
  | .cpxAbs a => 0xEC#8 :: encodeWord a
  | .sbcAbs a => 0xED#8 :: encodeWord a
  | .incAbs a => 0xEE#8 :: encodeWord a
  | .bbs6 z r => [0xEF#8, z, r]
  | .beqRel r => [0xF0#8, r]
  | .sbcZpIY z => [0xF1#8, z]
  | .sbcZpI z => [0xF2#8, z]
  | .sbcZpX z => [0xF5#8, z]
  | .incZpX z => [0xF6#8, z]
  | .smb7 z => [0xF7#8, z]
  | .sed => [0xF8#8]
  | .sbcAbsY a => 0xF9#8 :: encodeWord a
  | .plx => [0xFA#8]
  | .sbcAbsX a => 0xFD#8 :: encodeWord a
  | .incAbsX a => 0xFE#8 :: encodeWord a
  | .bbs7 z r => [0xFF#8, z, r]
  | .bplRel16 r => 0x10#8 :: encodeWord r
  | .bmiRel16 r => 0x30#8 :: encodeWord r
  | .bvcRel16 r => 0x50#8 :: encodeWord r
  | .bvsRel16 r => 0x70#8 :: encodeWord r
  | .bccRel16 r => 0x90#8 :: encodeWord r
  | .bcsRel16 r => 0xB0#8 :: encodeWord r
  | .bneRel16 r => 0xD0#8 :: encodeWord r
  | .beqRel16 r => 0xF0#8 :: encodeWord r
  | .braRel16 r => 0x80#8 :: encodeWord r
  | .asr => [0x4A#8]
  | .osx => encodeExt cfg .osx
  | .ind => encodeExt cfg .ind
  | .siz => encodeExt cfg .siz
  | .oax => encodeExt cfg .oax
  | .oay => encodeExt cfg .oay
  | .osz => encodeExt cfg .osz
  | .ois => encodeExt cfg .ois
  | .isz => encodeExt cfg .isz
  | .dup => encodeExt cfg .dup
  | .swp => encodeExt cfg .swp
  | .rot => encodeExt cfg .rot
  | .nxt => encodeExt cfg .nxt
  | .ent => encodeExt cfg .ent
  | .phi => encodeExt cfg .phi
  | .pli => encodeExt cfg .pli
  | .ini => encodeExt cfg .ini

/-- The length of the instruction that the opcode starts, under the configuration and PrefixState; 1 for a slot that is
no instruction (30_encoding.md R89). -/
def opLength (cfg : Config) (ps : PrefixState) (op : Byte) : Nat :=
  match baseEntry op with
  | some (.one _) => 1
  | some (.lsrA _ _) => 1
  | some (.imm _) => if ps.siz then 3 else 2
  | some (.byte _) => 2
  | some (.word _) => 3
  | some (.rel _ _) => if ps.ind then 3 else 2
  | some (.zprel _) => 3
  | none =>
    match slotKind cfg op with
    | .ipp _ => 2
    | _ => 1

/-- The relative operand that reaches `target` from a 2-byte branch at `pc`: `(target - pc) - 2`
(30_encoding.md R101). -/
def relOperand (target pc : Word) : Byte := loByte (target - pc - 2#16)

/-- The rel16 operand that reaches `target` from a branch opcode at `pc`: `(target - pc) - 3` (30_encoding.md R101). -/
def rel16Operand (target pc : Word) : Word := target - pc - 3#16

/-- The three bytes of a table word, the first the least significant; bits from `nbits` up are 0. -/
def tableBytes (nbits w : Nat) : List Byte :=
  let v := w % 2 ^ nbits
  [BitVec.ofNat 8 v, BitVec.ofNat 8 (v / 256), BitVec.ofNat 8 (v / 65536)]

/-- The instruction the decoder reads from the bytes of a table word, with no prefix flag set, in the reference
configuration; none where it refuses. The ASR row and the rel16 rows share their bits with LSR acc and the rel rows and
read as those (log 8). -/
def decodeTableWord (nbits w : Nat) : Option Instr :=
  match decode Config.reference PrefixState.clear (tableBytes nbits w) with
  | .ok (.instr i, _) => some i
  | _ => none

end Sys2Proof
end

