-- ==== Sys2Proof/Machine/Flags.lean ====
section
/-! DEFINITION. The fields of P and every flag computation: FlagsNZ, the binary and decimal adders, compare, shifts,
rotates and increments (10_state.md R32, 43_alu.md, 44_rmw_bit.md R261). -/

namespace Sys2Proof.Machine

/-- The bit of P that holds the flag (10_state.md R32). -/
def flagBit : Flag → Nat
  | .n => 7
  | .v => 6
  | .m => 5
  | .b => 4
  | .d => 3
  | .i => 2
  | .z => 1
  | .c => 0

/-- The value of a flag in a status byte. -/
def getFlag (f : Flag) (p : Byte) : Bool := p.getLsbD (flagBit f)

/-- The status byte with one flag replaced. -/
def setFlag (f : Flag) (v : Bool) (p : Byte) : Byte :=
  if v then p ||| (1#8 <<< flagBit f) else p &&& ~~~(1#8 <<< flagBit f)

/-- `P | 0x10`: BREAK forced to 1 (10_state.md R36). -/
def withBreak (p : Byte) : Byte := p ||| 0x10#8

/-- `FlagsNZ(v, W)` (43_alu.md R220). -/
def flagsNZ (W : Width) (v : Word) (p : Byte) : Byte :=
  setFlag .n (msbW W v) (setFlag .z (decide (maskW W v = 0#16)) p)

/-- A binary result with its carry and overflow. -/
structure BinSum where
  r : Word
  c : Bool
  v : Bool
deriving DecidableEq, Repr

/-- `AddBin(a, m, c, W)` (43_alu.md R221). -/
def addBin (W : Width) (a m : Word) (c : Bool) : BinSum :=
  let s := a.toNat + m.toNat + c.toNat
  let r := maskW W (BitVec.ofNat 16 s)
  { r := r
    c := decide (2 ^ W.bits ≤ s)
    v := msbW W (~~~(a ^^^ m) &&& (a ^^^ r)) }

/-- `AddBin(a, ~m & mask(W), c, W)`: binary subtraction, c the not-borrow (43_alu.md R221). -/
def subBin (W : Width) (a m : Word) (c : Bool) : BinSum := addBin W a (maskW W (~~~m)) c

/-- A decimal result with its flags. -/
structure DecSum where
  r : Byte
  c : Bool
  v : Bool
  n : Bool
  z : Bool
deriving DecidableEq, Repr

/-- The value that decimal-mode N and Z are taken from (43_alu.md R222, DEC_NZ_SOURCE). -/
def decFlagSource (src : DecNzSource) (unadjusted adjusted : Byte) : Byte :=
  match src with
  | .unadjusted => unadjusted
  | .adjusted => adjusted

/-- `AddDec(a, m, c)` (43_alu.md R222). -/
def addDec (src : DecNzSource) (a m : Byte) (c : Bool) : DecSum :=
  let n0 := a.toNat % 16 + m.toNat % 16 + c.toNat
  let hc := decide (9 < n0)
  let adj0 := if hc then 6 else 0
  let n1 := a.toNat / 16 + m.toNat / 16 + hc.toNat
  let dc := decide (9 < n1)
  let adj1 := if dc then 6 else 0
  let u := BitVec.ofNat 8 (n1 % 16 * 16 + n0 % 16)
  let r := BitVec.ofNat 8 ((n1 % 16 + adj1) % 16 * 16 + (n0 % 16 + adj0) % 16)
  let f := decFlagSource src u r
  { r := r
    c := dc
    v := (~~~(a ^^^ m) &&& (a ^^^ u)).getLsbD 7
    n := f.getLsbD 7
    z := decide (f = 0#8) }

/-- `SubDec(a, m, c)` (43_alu.md R223). -/
def subDec (src : DecNzSource) (a m : Byte) (c : Bool) : DecSum :=
  let mc := ~~~m
  let n0 := a.toNat % 16 + mc.toNat % 16 + c.toNat
  let hc := decide (15 < n0)
  let adj0 := if hc then 0 else 10
  let n1 := a.toNat / 16 + mc.toNat / 16 + hc.toNat
  let adj1 := if 15 < n1 then 0 else 0xA0
  let s := a.toNat + mc.toNat + c.toNat
  let u := s % 256
  let r := BitVec.ofNat 8 ((u + adj1) / 16 % 16 * 16 + (u + adj0) % 16)
  let f := decFlagSource src (BitVec.ofNat 8 u) r
  { r := r
    c := decide (255 < s)
    v := ((a ^^^ m) &&& (a ^^^ BitVec.ofNat 8 u)).getLsbD 7
    n := f.getLsbD 7
    z := decide (f = 0#8) }

/-- P after a binary ADC or SBC (43_alu.md R224, R225). -/
def binFlags (W : Width) (s : BinSum) (p : Byte) : Byte :=
  flagsNZ W s.r (setFlag .v s.v (setFlag .c s.c p))

/-- P after a decimal ADC or SBC (43_alu.md R224, R225). -/
def decFlags (s : DecSum) (p : Byte) : Byte :=
  setFlag .z s.z (setFlag .n s.n (setFlag .v s.v (setFlag .c s.c p)))

/-- P after `Cmp(a, m, W)` (43_alu.md R229). -/
def cmpFlags (W : Width) (a m : Word) (p : Byte) : Byte :=
  let s := subBin W a m true
  let q := flagsNZ W s.r (setFlag .c s.c p)
  match W with
  | .byte => q
  | .word => setFlag .v s.v q

/-- A value transform with the status byte it leaves: the operation f of 44_rmw_bit.md R260. -/
structure Shifted where
  r : Word
  p : Byte
deriving DecidableEq, Repr

/-- A result with its carry out, and FlagsNZ of it (44_rmw_bit.md R261). -/
def shifted (W : Width) (r : Word) (c : Bool) (p : Byte) : Shifted :=
  ⟨r, flagsNZ W r (setFlag .c c p)⟩

/-- A bit as a 16-bit value. -/
def bitWord (b : Bool) : Word := if b then 1#16 else 0#16

/-- ASL (44_rmw_bit.md R261). -/
def aslFn (W : Width) (v : Word) (p : Byte) : Shifted := shifted W (maskW W (v <<< 1)) (msbW W v) p

/-- LSR (44_rmw_bit.md R261). -/
def lsrFn (W : Width) (v : Word) (p : Byte) : Shifted := shifted W (v >>> 1) (v.getLsbD 0) p

/-- ROL (44_rmw_bit.md R261). -/
def rolFn (W : Width) (v : Word) (p : Byte) : Shifted :=
  shifted W (maskW W ((v <<< 1) ||| bitWord (getFlag .c p))) (msbW W v) p

/-- ROR (44_rmw_bit.md R261). -/
def rorFn (W : Width) (v : Word) (p : Byte) : Shifted :=
  shifted W ((v >>> 1) ||| (bitWord (getFlag .c p) <<< (W.bits - 1))) (v.getLsbD 0) p

/-- ASR, always at W = 16 (44_rmw_bit.md R276). -/
def asrFn (fill : AsrFill) (v : Word) (p : Byte) : Shifted :=
  let bit :=
    match fill with
    | .sign => v.getLsbD 15
    | .nXorV => getFlag .n p ^^ getFlag .v p
  shifted .word ((v >>> 1) ||| (bitWord bit <<< 15)) (v.getLsbD 0) p

/-- INC (44_rmw_bit.md R266). -/
def incFn (W : Width) (v : Word) (p : Byte) : Shifted :=
  let r := maskW W (v + 1#16)
  ⟨r, flagsNZ W r p⟩

/-- DEC (44_rmw_bit.md R267). -/
def decFn (W : Width) (v : Word) (p : Byte) : Shifted :=
  let r := maskW W (v - 1#16)
  ⟨r, flagsNZ W r p⟩

/-- P after BIT with a memory operand (43_alu.md R233). -/
def bitFlags (W : Width) (a m : Word) (p : Byte) : Byte :=
  setFlag .v (m.getLsbD (W.bits - 2))
    (setFlag .n (msbW W m) (setFlag .z (decide (a &&& m = 0#16)) p))

/-- P after BIT #, TSB or TRB: Z only (43_alu.md R234, 44_rmw_bit.md R272, R273). -/
def testFlags (a m : Word) (p : Byte) : Byte := setFlag .z (decide (a &&& m = 0#16)) p

end Sys2Proof.Machine
end

