-- ==== Sys2Proof/Machine/Memory.lean ====
section
/-! DEFINITION. Memory: the flat array of 65536 bytes (20_memory.md R60) as a list of (address, byte) pairs in one
canonical form. -/

namespace Sys2Proof.Machine

/-- Memory contents: the listed cells; every other address holds `Memory.unlisted`. -/
abbrev Memory := List Host.Cell

/-- What an address that is not listed reads as (log 1). -/
def Memory.unlisted : Byte := 0#8

/-- The byte at an address (20_memory.md R62). -/
def Memory.read : Memory → Nat → Byte
  | [], _ => Memory.unlisted
  | (b, v) :: rest, a => if b = a then v else Memory.read rest a

/-- The cells that say address `a` holds `v`: none where that is what an unlisted address reads as. -/
def Memory.cell (a : Nat) (v : Byte) : Memory := if v = Memory.unlisted then [] else [(a, v)]

/-- Memory with the byte at one address replaced (20_memory.md R63). -/
def Memory.write : Memory → Nat → Byte → Memory
  | [], a, v => Memory.cell a v
  | (b, w) :: rest, a, v =>
    if a < b then Memory.cell a v ++ (b, w) :: rest
    else if a = b then Memory.cell a v ++ rest
    else (b, w) :: Memory.write rest a v

/-- The cells from address `lo` on are in canonical form: addresses rise and stay below 65536, and no listed byte is
what an unlisted address reads as. -/
def Memory.wfFrom : Nat → Memory → Bool
  | _, [] => true
  | lo, (a, v) :: rest => decide (lo ≤ a) && decide (a < 65536) && (v != Memory.unlisted) && Memory.wfFrom (a + 1) rest

/-- Memory is in canonical form. -/
def Memory.wf (m : Memory) : Bool := Memory.wfFrom 0 m

end Sys2Proof.Machine
end

