-- ==== Sys2Proof/Machine/State.lean ====
section
/-! DEFINITION. The state of the core (10_state.md), its state after reset (70_reset_and_hazards.md R452), and the
reasons a step can stop (00_scope.md R15). -/

namespace Sys2Proof.Machine

/-- One register stack: slot 0 (TOS), slot 1 (NOS), slot 2 (BOS) (10_state.md R20). -/
structure RegStack where
  tos : Word
  nos : Word
  bos : Word
deriving DecidableEq, Repr

/-- All three slots at one value. -/
def RegStack.const (v : Word) : RegStack := ⟨v, v, v⟩

/-- The six counters (10_state.md R46). -/
structure Counters where
  cycles : Nat
  progReads : Nat
  dataReads : Nat
  dataWrites : Nat
  dummyCycles : Nat
  instructions : Nat
deriving DecidableEq, Repr

/-- Every counter 0 (10_state.md R46). -/
def Counters.zero : Counters := ⟨0, 0, 0, 0, 0, 0⟩

/-- The state of the core, its interrupt inputs and its configuration (70_reset_and_hazards.md R474). -/
structure State where
  a : RegStack
  x : RegStack
  y : RegStack
  /-- SP[0] (10_state.md R25). -/
  spUser : Word
  /-- SP[1] (10_state.md R25). -/
  spKernel : Word
  pc : Word
  /-- The status register (10_state.md R32). -/
  p : Byte
  ip : Word
  wp : Word
  ps : PrefixState
  /-- The NMI latch (60_exceptions.md R411). -/
  nmiPending : Bool
  /-- The level of the IRQ input, which the host drives (60_exceptions.md R412, log 5). -/
  irq : Bool
  counters : Counters
  mem : Memory
  /-- The parameters of 00_scope.md R8; no step writes them (log 2). -/
  cfg : Config
deriving DecidableEq, Repr

/-- Why the model gives an admitted spelling no meaning. -/
inductive Fault where
  /-- Raised by an instruction that honours oax and oay when both are set (41_prefix.md R157). Safe: the source does not
  say what the pair does, and the run stops. -/
  | prefixConflict
deriving DecidableEq, Repr

/-- Why the model has no meaning for what it fetched. -/
inductive Refusal where
  /-- Raised by an arm of exec whose instruction has no meaning yet. Safe: the run stops. -/
  | notModelled (mnemonic : String)
  /-- Raised by a step that fetches a slot the configuration leaves refused (30_encoding.md R98, 46_control.md R386).
  Safe: the run stops. -/
  | unassignedSlot (op : Byte)
  /-- Raised where bytes end before their instruction does. Safe: a step always fetches enough bytes, so it never
  raises this (log 13). -/
  | truncatedBytes
deriving DecidableEq, Repr

/-- The outcome of an instruction or a step. -/
abbrev Result := Host.Outcome State Fault Refusal

/-- The state right after reset, in the reference configuration over a memory with nothing listed
(70_reset_and_hazards.md R450, R452, R453; logs 1, 2, 3, 5). PC is the word at the RESET vector. -/
def State.reset : State where
  a := RegStack.const 0#16
  x := RegStack.const 0#16
  y := RegStack.const 0#16
  spUser := 0x00FF#16
  spKernel := 0x01FF#16
  pc := mkWord Memory.unlisted Memory.unlisted
  p := 0x34#8
  ip := 0#16
  wp := 0#16
  ps := PrefixState.clear
  nmiPending := false
  irq := false
  counters := Counters.zero
  mem := []
  cfg := Config.reference

end Sys2Proof.Machine
end

