-- ==== Sys2Proof/Machine/Ops.lean ====
section
/-! DEFINITION. The named operations over memory, registers and the stack; taking a trap and returning from one; the
reset sequence. -/

namespace Sys2Proof.Machine

/-! ## Memory -/

/-- `MemRead(a, 1)`, the byte alone (20_memory.md R62). Its counter is `State.countReads`. -/
def State.readByte (s : State) (a : Word) : Byte := s.mem.read a.toNat

/-- `n` more data-memory reads (10_state.md R48). -/
def State.countReads (n : Nat) (s : State) : State :=
  { s with counters := { s.counters with dataReads := s.counters.dataReads + n } }

/-- `MemWrite(a, 1, v)` (20_memory.md R63). -/
def State.writeByte (a : Word) (v : Byte) (s : State) : State :=
  { s with
    mem := s.mem.write a.toNat v
    counters := { s.counters with dataWrites := s.counters.dataWrites + 1 } }

/-- An effective address with its wrap class (00_scope.md R13). -/
structure EA where
  addr : Word
  wrap : Wrap
deriving DecidableEq, Repr

/-- The address of the second byte, `next(ea).addr` (00_scope.md R13). -/
def EA.nextAddr (ea : EA) : Word :=
  match ea.wrap with
  | .page => pageAdd ea.addr 1#16
  | .full => ea.addr + 1#16

/-- The word that `MemRead(ea, 2)` returns (20_memory.md R65). -/
def State.readWord (s : State) (ea : EA) : Word := mkWord (s.readByte ea.nextAddr) (s.readByte ea.addr)

/-- The value `RdMem(ea, W)` returns (40_addressing.md R135). -/
def State.readMem (s : State) (ea : EA) (W : Width) : Word :=
  match W with
  | .byte => zext (s.readByte ea.addr)
  | .word => s.readWord ea

/-- `WrMem(ea, W, v)` (40_addressing.md R136, 20_memory.md R66). -/
def State.writeMem (ea : EA) (W : Width) (v : Word) (s : State) : State :=
  match W with
  | .byte => s.writeByte ea.addr (loByte v)
  | .word => (s.writeByte ea.addr (loByte v)).writeByte ea.nextAddr (hiByte v)

/-! ## Flags in the state -/

/-- The state with one field of P replaced. -/
def State.setP (f : Flag) (v : Bool) (s : State) : State := { s with p := setFlag f v s.p }

/-! ## The active stack pointer and the stack -/

/-- S, the active stack pointer SP[P.M] (10_state.md R25). -/
def State.sp (s : State) : Word := if getFlag .m s.p then s.spKernel else s.spUser

/-- The state with S replaced (10_state.md R25). -/
def State.setSp (v : Word) (s : State) : State :=
  if getFlag .m s.p then { s with spKernel := v } else { s with spUser := v }

/-- SP_THRESHOLD (00_scope.md R8, 10_state.md R26). -/
def spThreshold : Nat := 512

/-- The pointer lies in the page-confined region (10_state.md R26). -/
def belowThreshold (s : Word) : Bool := decide (s.toNat < spThreshold)

/-- `SDec` (45_stack.md R310). -/
def sDec (s : Word) : Word := if belowThreshold s then pageAdd s 0xFFFF#16 else s - 1#16

/-- `SInc` (45_stack.md R310). -/
def sInc (s : Word) : Word := if belowThreshold s then pageAdd s 1#16 else s + 1#16

/-- `Push8(v)` (45_stack.md R310). -/
def State.push8 (v : Byte) (s : State) : State := (s.writeByte s.sp v).setSp (sDec s.sp)

/-- `Push16(v)`: high byte first (45_stack.md R312). -/
def State.push16 (v : Word) (s : State) : State := (s.push8 (hiByte v)).push8 (loByte v)

/-- A pulled value and the state after the pull. -/
structure Pulled (α : Type) where
  val : α
  st : State

/-- `Pull8()` (45_stack.md R311). -/
def State.pull8 (s : State) : Pulled Byte :=
  ⟨s.readByte (sInc s.sp), (s.setSp (sInc s.sp)).countReads 1⟩

/-- `Pull16()` (45_stack.md R313). -/
def State.pull16 (s : State) : Pulled Word :=
  let lo := s.pull8
  let hi := lo.st.pull8
  ⟨mkWord hi.val lo.val, hi.st⟩

/-- `PushW(v, W)` (45_stack.md R314). -/
def State.pushW (W : Width) (v : Word) (s : State) : State :=
  match W with
  | .byte => s.push8 (loByte v)
  | .word => s.push16 v

/-- `PullW(W)` (45_stack.md R314). -/
def State.pullW (W : Width) (s : State) : Pulled Word :=
  match W with
  | .byte => ⟨zext s.pull8.val, s.pull8.st⟩
  | .word => s.pull16

/-! ## The registers A, X, Y and S -/

/-- The register stack of a name. -/
def State.stack (s : State) : RegName → RegStack
  | .a => s.a
  | .x => s.x
  | .y => s.y

/-- The state with a register stack replaced. -/
def State.setStack (r : RegName) (v : RegStack) (s : State) : State :=
  match r with
  | .a => { s with a := v }
  | .x => { s with x := v }
  | .y => { s with y := v }

/-- Slot 0, whole (10_state.md R21). -/
def State.slot0 (s : State) (r : RegName) : Word := (s.stack r).tos

/-- The state with slot 0 replaced; slots 1 and 2 keep their values (10_state.md R21). -/
def State.setSlot0 (r : RegName) (v : Word) (s : State) : State :=
  s.setStack r { s.stack r with tos := v }

/-- What a byte write leaves in a slot (00_scope.md R12, BYTE_WRITE_HIGH). -/
def byteWritten (bw : ByteWriteHigh) (old v : Word) : Word :=
  match bw with
  | .zero => zext (loByte v)
  | .preserve => (old &&& 0xFF00#16) ||| zext (loByte v)

/-- A data register: slot 0 of a register stack, or S used as a register (00_scope.md R12). -/
inductive DataReg where
  | slot (r : RegName)
  | sp
deriving DecidableEq, Repr

/-- `RdReg(r, W)` (00_scope.md R12). -/
def State.rdReg (s : State) (d : DataReg) (W : Width) : Word :=
  match d with
  | .slot r => maskW W (s.slot0 r)
  | .sp => maskW W s.sp

/-- `WrReg(r, v, W)` (00_scope.md R12). -/
def State.wrReg (d : DataReg) (W : Width) (v : Word) (s : State) : State :=
  match d, W with
  | .slot r, .byte => s.setSlot0 r (byteWritten s.cfg.byteWriteHigh (s.slot0 r) v)
  | .slot r, .word => s.setSlot0 r v
  | .sp, .byte => s.setSp ((s.sp &&& 0xFF00#16) ||| zext (loByte v))
  | .sp, .word => s.setSp v

/-! ## PrefixState -/

/-- W of an instruction that honours siz (41_prefix.md R155). -/
def State.width (s : State) : Width := if s.ps.siz then .word else .byte

/-- The oax/oay exchange ρ (41_prefix.md R156). -/
def State.rho (s : State) (r : RegName) : RegName :=
  if s.ps.oax then
    match r with
    | .a => .x
    | .x => .a
    | .y => .y
  else if s.ps.oay then
    match r with
    | .a => .y
    | .x => .x
    | .y => .a
  else r

/-- oax and oay are both set (41_prefix.md R157). -/
def State.conflict (s : State) : Bool := s.ps.oax && s.ps.oay

/-- The outcome of an instruction that honours oax/oay: PrefixConflict when both are set, else its next state
(41_prefix.md R157). -/
def guardExchange (s t : State) : Result := if s.conflict then .fault .prefixConflict else .next t

/-! ## Traps and the return from them -/

/-- `PC <- MemRead((v, full), 2)`. -/
def State.loadVector (v : Word) (s : State) : State :=
  { s.countReads 2 with pc := s.readWord ⟨v, .full⟩ }

/-- `TrapEntry(v)`, taken by BRK, IRQ and NMI (60_exceptions.md R416). -/
def trapEntry (v : Word) (s : State) : State :=
  match s.cfg.trapStackOrder with
  | .kernelFirst =>
    let pushed := ((s.setP .m true).push16 s.pc).push8 (withBreak s.p)
    ((pushed.setP .i true).setP .d false).loadVector v
  | .literal =>
    let pushed := (s.push16 s.pc).push8 (withBreak s.p)
    (((pushed.setP .m true).setP .i true).setP .d false).loadVector v

/-- The return from a trap: RTI (46_control.md R371). -/
def trapReturn (s : State) : State :=
  match s.cfg.trapStackOrder with
  | .kernelFirst =>
    let b := s.pull8
    let pc := b.st.pull16
    { pc.st with p := withBreak b.val, pc := pc.val }
  | .literal =>
    let b := s.pull8
    let pc := State.pull16 { b.st with p := withBreak b.val }
    { pc.st with pc := pc.val }

/-! ## Reset -/

/-- Reset's write of RESET_SEED (70_reset_and_hazards.md R451). -/
def seedReset (cfg : Config) (m : Memory) : Memory :=
  match cfg.resetSeed with
  | none => m
  | some w => (m.write cfg.vecReset.toNat (loByte w)).write (cfg.vecReset + 1#16).toNat (hiByte w)

/-- `reset()` (70_reset_and_hazards.md R450). Memory persists; the IRQ input is not state and keeps its level. -/
def resetCore (s : State) : State :=
  let mem := seedReset s.cfg s.mem
  { a := RegStack.const s.cfg.resetA
    x := RegStack.const s.cfg.resetX
    y := RegStack.const s.cfg.resetY
    spUser := s.cfg.resetSp0
    spKernel := s.cfg.resetSp1
    pc := mkWord (mem.read (s.cfg.vecReset + 1#16).toNat) (mem.read s.cfg.vecReset.toNat)
    p := s.cfg.resetP
    ip := s.cfg.resetIp
    wp := s.cfg.resetWp
    ps := PrefixState.clear
    nmiPending := false
    irq := s.irq
    counters := Counters.zero
    mem := mem
    cfg := s.cfg }

end Sys2Proof.Machine
end

