-- ==== Sys2Proof/Machine/Cycle.lean ====
section
/-! DEFINITION. The parts of a step around an instruction: interrupt acceptance, the fetch, what the end of a step does
(60_exceptions.md R410, 30_encoding.md R87, 46_control.md R381, R385). -/

namespace Sys2Proof.Machine

/-- More processor and dummy cycles (10_state.md R48). -/
def State.addCycles (cycles dummy : Nat) (s : State) : State :=
  { s with
    counters :=
      { s.counters with
        cycles := s.counters.cycles + cycles
        dummyCycles := s.counters.dummyCycles + dummy } }

/-- An accepted NMI: the latch is cleared and the trap taken through VEC_NMI (60_exceptions.md R410, R411). -/
def nmiEntry (s : State) : State :=
  (trapEntry s.cfg.vecNmi { s with nmiPending := false }).addCycles Config.interruptCycles 0

/-- An accepted IRQ: the trap is taken through VEC_IRQ (60_exceptions.md R410, R412). -/
def irqEntry (s : State) : State := (trapEntry s.cfg.vecIrq s).addCycles Config.interruptCycles 0

/-- The acceptance check at the start of a step: the state after the entry of the interrupt that is accepted, if one is
(60_exceptions.md R410). -/
def acceptInterrupt (s : State) : Option State :=
  if s.ps.any then none
  else if s.nmiPending then some (nmiEntry s)
  else if s.irq && !getFlag .i s.p then some (irqEntry s)
  else none

/-- The opcode at PC. -/
def State.opcode (s : State) : Byte := s.readByte s.pc

/-- The bytes from PC on, as many as the longest instruction has (30_encoding.md R86, R87). -/
def fetchWindow (s : State) : List Byte :=
  [s.readByte s.pc, s.readByte (s.pc + 1#16), s.readByte (s.pc + 2#16)]

/-- What the bytes at PC hold (30_encoding.md R89). -/
def decodeAt (s : State) : Except DecodeError (Decoded × List Byte) := decode s.cfg s.ps (fetchWindow s)

/-- The state after `n` bytes are fetched with Fetch8 (30_encoding.md R87, 10_state.md R48). -/
def State.fetched (n : Nat) (s : State) : State :=
  { s with
    pc := s.pc + BitVec.ofNat 16 n
    counters := { s.counters with progReads := s.counters.progReads + n } }

/-- The eight prefix instructions (41_prefix.md R150). -/
def isPrefix : Instr → Bool
  | .osx => true
  | .ind => true
  | .siz => true
  | .oax => true
  | .oay => true
  | .osz => true
  | .ois => true
  | .isz => true
  | _ => false

/-- The cycle counts of an opcode (46_control.md R381). -/
def State.addOpcodeCycles (op : Byte) (s : State) : State :=
  s.addCycles (Config.cyclesOf op) (Config.dummyCyclesOf op)

/-- The end of a prefix's step: PrefixState stays and nothing is counted as an instruction (41_prefix.md R150, R169). -/
def finishPrefix (op : Byte) (s : State) : State := s.addOpcodeCycles op

/-- The end of the step of any other instruction: PrefixState is cleared and the instruction counted
(46_control.md R381). -/
def finishInstr (op : Byte) (s : State) : State :=
  State.addOpcodeCycles op
    { s with
      ps := PrefixState.clear
      counters := { s.counters with instructions := s.counters.instructions + 1 } }

/-- The end of the step of an instruction of the table. -/
def finish (i : Instr) (op : Byte) (s : State) : State :=
  if isPrefix i then finishPrefix op s else finishInstr op s

/-- The default dispatch entry, after the opcode is fetched: PC advances by UNIMPL_ADVANCE in total, PrefixState is
cleared, nothing is counted as an instruction (46_control.md R385). -/
def unimplementedEntry (op : Byte) (s : State) : State :=
  State.addOpcodeCycles op
    { s with pc := s.pc + s.cfg.unimplAdvance.toWord - 1#16, ps := PrefixState.clear }

/-- The refusal of a step whose bytes are no instruction (46_control.md R386). -/
def refusalOf : DecodeError → Refusal
  | .truncated => .truncatedBytes
  | .unassignedSlot op => .unassignedSlot op

/-- What an outcome's next state becomes; a fault or a refusal stays. -/
def andThen (f : State → State) : Result → Result
  | .next t => .next (f t)
  | .fault r => .fault r
  | .refused r => .refused r

/-- The bytes of a table word stored from an address on. -/
def storeBytes : Word → List Byte → Memory → Memory
  | _, [], m => m
  | a, b :: rest, m => storeBytes (a + 1#16) rest (m.write a.toNat b)

end Sys2Proof.Machine
end

