-- ==== Sys2Proof/Machine/Operands.lean ====
section
/-! DEFINITION. The address-mode resolver (40_addressing.md): effective addresses under osx, ind and the exchange, the
data reads they make, operand values, branch targets, and the data register of an instruction. -/

namespace Sys2Proof.Machine

/-- Active osx (40_addressing.md R112). -/
def State.osxOn (s : State) : Bool := s.ps.osx && !s.ps.lscx

/-- `idx(R)`: the full slot 0 of ρ(R) (40_addressing.md R113). -/
def State.idx (s : State) (r : RegName) : Word := s.slot0 (s.rho r)

/-- What OSX_KEEPS_INDEX adds to an osx address (40_addressing.md R119). -/
def State.keptIdx (s : State) (r : RegName) : Word := if s.cfg.osxKeepsIndex then s.idx r else 0#16

/-- The address that the zp mode computes before ind (40_addressing.md R114, R116, R117). -/
def State.zpAddr (s : State) (z : Byte) : EA :=
  if s.osxOn then
    if belowThreshold s.sp then ⟨pageAdd s.sp (zext z), .page⟩ else ⟨s.sp + zext z, .full⟩
  else ⟨zext z, .page⟩

/-- The address that zpX or zpY computes before ind (40_addressing.md R115, R116, R118, R119). -/
def State.zpIdxAddr (s : State) (z : Byte) (r : RegName) : EA :=
  if s.osxOn then
    if belowThreshold s.sp then ⟨pageAdd s.sp (zext z + s.keptIdx r), .page⟩
    else ⟨s.sp + sext z + s.keptIdx r, .full⟩
  else ⟨(zext z + s.idx r) &&& 0x00FF#16, .page⟩

/-- The address that abs and absI compute before ind (40_addressing.md R124, R125, R127). -/
def State.absAddr (s : State) (a : Word) : EA := ⟨if s.osxOn then s.sp + a else a, .full⟩

/-- The address that absX, absY and absXI compute before ind (40_addressing.md R124, R125, R128). -/
def State.absIdxAddr (s : State) (a : Word) (r : RegName) : EA :=
  ⟨if s.osxOn then s.sp + a + s.keptIdx r else a + s.idx r, .full⟩

/-- The address a pointer holds: class full (40_addressing.md R139). -/
def State.deref (s : State) (ea : EA) : EA := ⟨s.readWord ea, .full⟩

/-- The indirection that ind adds (40_addressing.md R120, R126). -/
def State.withInd (s : State) (ea : EA) : EA := if s.ps.ind then s.deref ea else ea

/-- The effective address of a memory operand (40_addressing.md R114 to R128, R137). -/
def State.effAddr (s : State) : MemMode → EA
  | .zp z => s.withInd (s.zpAddr z)
  | .zpX z => s.withInd (s.zpIdxAddr z .x)
  | .zpY z => s.withInd (s.zpIdxAddr z .y)
  | .zpI z => s.withInd (s.deref (s.zpAddr z))
  | .zpXI z => s.withInd (s.deref (s.zpIdxAddr z .x))
  | .zpIY z => ⟨(s.withInd (s.deref (s.zpAddr z))).addr + s.idx .y, .full⟩
  | .abs a => s.withInd (s.absAddr a)
  | .absX a => s.withInd (s.absIdxAddr a .x)
  | .absY a => s.withInd (s.absIdxAddr a .y)
  | .absI a => s.withInd (s.deref (s.absAddr a))
  | .absXI a => s.withInd (s.deref (s.absIdxAddr a .x))
  | .ipp => s.withInd ⟨s.ip, .full⟩

/-- The data reads of the indirection that ind adds. -/
def State.indReads (s : State) : Nat := if s.ps.ind then 2 else 0

/-- The data reads that finding the effective address makes: two for each pointer (10_state.md R48). -/
def State.pointerReads (s : State) : MemMode → Nat
  | .zp _ => s.indReads
  | .zpX _ => s.indReads
  | .zpY _ => s.indReads
  | .zpI _ => 2 + s.indReads
  | .zpXI _ => 2 + s.indReads
  | .zpIY _ => 2 + s.indReads
  | .abs _ => s.indReads
  | .absX _ => s.indReads
  | .absY _ => s.indReads
  | .absI _ => 2 + s.indReads
  | .absXI _ => 2 + s.indReads
  | .ipp => s.indReads

/-- IP after an ipp access that ended: W/8 further, unless ind (40_addressing.md R137, R138). Every other mode leaves
IP. -/
def State.settleIp (m : MemMode) (W : Width) (s : State) : State :=
  match m with
  | .ipp => if s.ps.ind then s else { s with ip := s.ip + BitVec.ofNat 16 W.bytes }
  | _ => s

/-- `Opd(W)` (42_load_store_transfer.md R170). -/
def State.operandValue (s : State) (o : Operand) (W : Width) : Word :=
  match o with
  | .imm v => maskW W v
  | .mem m => s.readMem (s.effAddr m) W

/-- The state after the source operand is read: its data reads counted, IP moved by an ipp access. -/
def State.consume (o : Operand) (W : Width) (s : State) : State :=
  match o with
  | .imm _ => s
  | .mem m => (s.countReads (s.pointerReads m + W.bytes)).settleIp m W

/-- The state after a data write to a memory operand whose address `s0` computed: pointer reads counted, the bytes
stored, IP moved by an ipp access (40_addressing.md R136, R138). -/
def State.store (m : MemMode) (W : Width) (v : Word) (s : State) : State :=
  ((s.countReads (s.pointerReads m)).writeMem (s.effAddr m) W v).settleIp m W

/-- The state after the read and the write of a read-modify-write operand (44_rmw_bit.md R260). -/
def State.modify (m : MemMode) (W : Width) (v : Word) (s : State) : State :=
  ((s.countReads (s.pointerReads m + W.bytes)).writeMem (s.effAddr m) W v).settleIp m W

/-- The rel and zprel target, PC being at the byte after the instruction (40_addressing.md R132, R134). -/
def State.relTarget (s : State) (r : Byte) : Word := s.pc + sext r

/-- The rel16 target, PC being at the byte after the instruction (40_addressing.md R133). -/
def State.rel16Target (s : State) (r : Word) : Word := s.pc + r

/-- `Dst(r)` of an instruction other than LDX, STX and CPX: ρ(r) (42_load_store_transfer.md R170). -/
def State.dataReg (s : State) (r : RegName) : DataReg := .slot (s.rho r)

/-- The operand is in ipp mode, which ignores osx (41_prefix.md R160, log 12). -/
def isIpp : Operand → Bool
  | .mem .ipp => true
  | _ => false

/-- LDX, STX and CPX under osx set lscx before they call the resolver (41_prefix.md R158). -/
def State.markLscx (o : Operand) (s : State) : State :=
  if s.ps.osx && !isIpp o then { s with ps := { s.ps with lscx := true } } else s

/-- The data register of LDX, STX and CPX: S under osx where OSX_REG_REDIRECT holds and ρ(X) = X
(41_prefix.md R158). -/
def State.indexDataReg (s : State) (o : Operand) : DataReg :=
  if s.ps.osx && !isIpp o && s.cfg.osxRegRedirect && s.rho .x == .x then .sp else s.dataReg .x

end Sys2Proof.Machine
end

