-- ==== Sys2Proof/Machine/Handlers.lean ====
section
/-! DEFINITION. The operations that several instructions share: what a load, a store, a transfer, an ALU operation, a
read-modify-write, a branch does to the state. PC already stands at the byte after the instruction (10_state.md R30);
step clears PrefixState and counts the instruction afterwards (46_control.md R381). -/

namespace Sys2Proof.Machine

/-- The state with P replaced by a function of P. -/
def State.mapP (f : Byte → Byte) (s : State) : State := { s with p := f s.p }

/-! ## Loads, stores, transfers -/

/-- `v <- Opd(W); WrReg(d, v, W); FlagsNZ(v, W)` (42_load_store_transfer.md R172 to R174). -/
def loadInto (d : DataReg) (o : Operand) (s : State) : State :=
  let W := s.width
  let v := s.operandValue o W
  ((s.consume o W).wrReg d W v).mapP (flagsNZ W v)

/-- A load of A or Y (42_load_store_transfer.md R172, R174). -/
def loadReg (r : RegName) (o : Operand) (s : State) : Result := guardExchange s (loadInto (s.dataReg r) o s)

/-- A load of X, or of S under osx (42_load_store_transfer.md R173). -/
def loadX (o : Operand) (s : State) : Result :=
  guardExchange s (loadInto (s.indexDataReg o) o (s.markLscx o))

/-- A store of A or Y (42_load_store_transfer.md R175, R177). -/
def storeReg (r : RegName) (m : MemMode) (s : State) : Result :=
  guardExchange s (s.store m s.width (s.rdReg (s.dataReg r) s.width))

/-- A store of X, or of S under osx (42_load_store_transfer.md R176). -/
def storeX (m : MemMode) (s : State) : Result :=
  guardExchange s ((s.markLscx (.mem m)).store m s.width (s.rdReg (s.indexDataReg (.mem m)) s.width))

/-- A store of zero (42_load_store_transfer.md R178). -/
def storeZero (m : MemMode) (s : State) : Result := guardExchange s (s.store m s.width 0#16)

/-- A transfer from register `src` to register `dst`, both under ρ (42_load_store_transfer.md R179 to R182). -/
def transfer (src dst : RegName) (s : State) : Result :=
  let W := s.width
  let v := s.rdReg (s.dataReg src) W
  guardExchange s ((s.wrReg (s.dataReg dst) W v).mapP (flagsNZ W v))

/-! ## ALU -/

/-- ADC (43_alu.md R224). -/
def addWithCarry (o : Operand) (s : State) : Result :=
  let W := s.width
  let d := s.dataReg .a
  let a := s.rdReg d W
  let m := s.operandValue o W
  let t := s.consume o W
  let c := getFlag .c s.p
  guardExchange s <|
    if getFlag .d s.p && W == .byte then
      let r := addDec s.cfg.decNzSource (loByte a) (loByte m) c
      (t.wrReg d W (zext r.r)).mapP (decFlags r)
    else
      let r := addBin W a m c
      (t.wrReg d W r.r).mapP (binFlags W r)

/-- SBC (43_alu.md R225). -/
def subWithCarry (o : Operand) (s : State) : Result :=
  let W := s.width
  let d := s.dataReg .a
  let a := s.rdReg d W
  let m := s.operandValue o W
  let t := s.consume o W
  let c := getFlag .c s.p
  guardExchange s <|
    if getFlag .d s.p && W == .byte then
      let r := subDec s.cfg.decNzSource (loByte a) (loByte m) c
      (t.wrReg d W (zext r.r)).mapP (decFlags r)
    else
      let r := subBin W a m c
      (t.wrReg d W r.r).mapP (binFlags W r)

/-- AND, ORA and EOR, f the bitwise operation (43_alu.md R226 to R228). -/
def logic (f : Word → Word → Word) (o : Operand) (s : State) : Result :=
  let W := s.width
  let d := s.dataReg .a
  let r := f (s.rdReg d W) (s.operandValue o W)
  guardExchange s (((s.consume o W).wrReg d W r).mapP (flagsNZ W r))

/-- CMP and CPY (43_alu.md R230, R232). -/
def compareReg (r : RegName) (o : Operand) (s : State) : Result :=
  let W := s.width
  guardExchange s ((s.consume o W).mapP (cmpFlags W (s.rdReg (s.dataReg r) W) (s.operandValue o W)))

/-- CPX, which compares S under osx (43_alu.md R231). -/
def compareX (o : Operand) (s : State) : Result :=
  let W := s.width
  let t := s.markLscx o
  guardExchange s ((t.consume o W).mapP (cmpFlags W (s.rdReg (s.indexDataReg o) W) (t.operandValue o W)))

/-- BIT with a memory operand (43_alu.md R233). -/
def bitMem (m : MemMode) (s : State) : Result :=
  let W := s.width
  guardExchange s
    ((s.consume (.mem m) W).mapP (bitFlags W (s.rdReg (s.dataReg .a) W) (s.operandValue (.mem m) W)))

/-- BIT # (43_alu.md R234). -/
def bitImmediate (v : Word) (s : State) : Result :=
  let W := s.width
  guardExchange s (s.mapP (testFlags (s.rdReg (s.dataReg .a) W) (s.operandValue (.imm v) W)))

/-! ## Read-modify-write -/

/-- The memory form of a shift, rotate, increment or decrement (44_rmw_bit.md R260). -/
def rmwMem (f : Width → Word → Byte → Shifted) (m : MemMode) (s : State) : Result :=
  let W := s.width
  let r := f W (s.operandValue (.mem m) W) s.p
  guardExchange s ((s.modify m W r.r).mapP (fun _ => r.p))

/-- The register form, on the slot that ρ puts in `reg`'s place (44_rmw_bit.md R260, R268 to R271). -/
def rmwReg (f : Width → Word → Byte → Shifted) (reg : RegName) (s : State) : Result :=
  let W := s.width
  let d := s.dataReg reg
  let r := f W (s.rdReg d W) s.p
  guardExchange s ((s.wrReg d W r.r).mapP (fun _ => r.p))

/-- ASR, at W = 16 (44_rmw_bit.md R276). -/
def arithShift (s : State) : Result :=
  let d := s.dataReg .a
  let r := asrFn s.cfg.asrFill (s.rdReg d .word) s.p
  guardExchange s ((s.wrReg d .word r.r).mapP (fun _ => r.p))

/-- TSB and TRB, f giving the stored value from the memory operand and A (44_rmw_bit.md R272, R273). -/
def testModify (f : Word → Word → Word) (m : MemMode) (s : State) : Result :=
  let W := s.width
  let a := s.rdReg (s.dataReg .a) W
  let v := s.operandValue (.mem m) W
  guardExchange s ((s.modify m W (f v a)).mapP (testFlags a v))

/-! ## Memory bit instructions -/

/-- A byte with one bit replaced (44_rmw_bit.md R277 to R292). -/
def withBit (n : Nat) (v : Bool) (m : Byte) : Byte :=
  if v then m ||| (1#8 <<< n) else m &&& ~~~(1#8 <<< n)

/-- RMBn and SMBn: one byte, no flag, no exchange (44_rmw_bit.md R275). -/
def changeBit (n : Nat) (v : Bool) (m : MemMode) (s : State) : Result :=
  .next (s.modify m .byte (zext (withBit n v (loByte (s.operandValue (.mem m) .byte)))))

/-- BBRn and BBSn: branch when bit n of the byte is `v` (44_rmw_bit.md R275, R293 to R308). -/
def branchBit (n : Nat) (v : Bool) (z r : Byte) (s : State) : Result :=
  let m := loByte (s.operandValue (.mem (.zp z)) .byte)
  let t := s.consume (.mem (.zp z)) .byte
  .next (if m.getLsbD n == v then { t with pc := s.relTarget r } else t)

/-! ## Stack and register stacks -/

/-- PHA, PHX and PHY (45_stack.md R315 to R317). -/
def pushReg (r : RegName) (s : State) : Result :=
  guardExchange s (s.pushW s.width (s.rdReg (s.dataReg r) s.width))

/-- PLA, PLX and PLY (45_stack.md R320 to R322). -/
def pullReg (r : RegName) (s : State) : Result :=
  let W := s.width
  let v := s.pullW W
  guardExchange s ((v.st.wrReg (s.dataReg r) W v.val).mapP (flagsNZ W v.val))

/-- The register stack that DUP, SWP and ROT work on (45_stack.md R324). -/
def State.selectedStack (s : State) : RegName := if s.ps.oax then .x else if s.ps.oay then .y else .a

/-- DUP, SWP and ROT, f the stack move (45_stack.md R324). -/
def moveStack (f : RegStack → RegStack) (s : State) : Result :=
  guardExchange s (s.setStack s.selectedStack (f (s.stack s.selectedStack)))

/-! ## Control -/

/-- `if cond then PC <- t` (46_control.md R340). -/
def branchIf (cond : Bool) (t : Word) (s : State) : Result := .next (if cond then { s with pc := t } else s)

/-- The operand of JMP abs and JSR: the address, or under ind the word it holds (46_control.md R365, R366). -/
def State.jumpTarget (a : Word) (s : State) : Word := if s.ps.ind then s.readWord ⟨a, .full⟩ else a

/-- `P.f <- v` (46_control.md R373 to R379). -/
def putFlag (f : Flag) (v : Bool) (s : State) : Result := .next (s.setP f v)

/-! ## PrefixState -/

/-- A prefix sets its flags and leaves the others (41_prefix.md R150, R151). -/
def setPrefix (f : PrefixState → PrefixState) (s : State) : Result := .next { s with ps := f s.ps }

/-! ## Forth VM -/

/-- The NXT sequence (47_forth_vm.md R392). -/
def nextWord (s : State) : State :=
  let w := s.readWord ⟨s.ip, .full⟩
  { s.countReads 4 with ip := s.ip + 2#16, pc := s.readWord ⟨w, .full⟩, wp := w + 2#16 }

end Sys2Proof.Machine
end

