-- ==== Sys2Proof/Machine/Arith.lean ====
section
/-! DEFINITION. ADC and SBC (43_alu.md R224, R225). -/

namespace Sys2Proof.Machine

/-- ADC zpXI (43_alu.md R224). -/
def execAdcZpXI (z : Byte) (s : State) : Result :=
  addWithCarry (.mem (.zpXI z)) s

/-- ADC zp (43_alu.md R224). -/
def execAdcZp (z : Byte) (s : State) : Result :=
  addWithCarry (.mem (.zp z)) s

/-- ADC imm (43_alu.md R224). -/
def execAdcImm (v : Word) (s : State) : Result :=
  addWithCarry (.imm v) s

/-- ADC abs (43_alu.md R224). -/
def execAdcAbs (a : Word) (s : State) : Result :=
  addWithCarry (.mem (.abs a)) s

/-- ADC zpIY (43_alu.md R224). -/
def execAdcZpIY (z : Byte) (s : State) : Result :=
  addWithCarry (.mem (.zpIY z)) s

/-- ADC zpI (43_alu.md R224). -/
def execAdcZpI (z : Byte) (s : State) : Result :=
  addWithCarry (.mem (.zpI z)) s

/-- ADC zpX (43_alu.md R224). -/
def execAdcZpX (z : Byte) (s : State) : Result :=
  addWithCarry (.mem (.zpX z)) s

/-- ADC absY (43_alu.md R224). -/
def execAdcAbsY (a : Word) (s : State) : Result :=
  addWithCarry (.mem (.absY a)) s

/-- ADC absX (43_alu.md R224). -/
def execAdcAbsX (a : Word) (s : State) : Result :=
  addWithCarry (.mem (.absX a)) s

/-- SBC zpXI (43_alu.md R225). -/
def execSbcZpXI (z : Byte) (s : State) : Result :=
  subWithCarry (.mem (.zpXI z)) s

/-- SBC zp (43_alu.md R225). -/
def execSbcZp (z : Byte) (s : State) : Result :=
  subWithCarry (.mem (.zp z)) s

/-- SBC imm (43_alu.md R225). -/
def execSbcImm (v : Word) (s : State) : Result :=
  subWithCarry (.imm v) s

/-- SBC abs (43_alu.md R225). -/
def execSbcAbs (a : Word) (s : State) : Result :=
  subWithCarry (.mem (.abs a)) s

/-- SBC zpIY (43_alu.md R225). -/
def execSbcZpIY (z : Byte) (s : State) : Result :=
  subWithCarry (.mem (.zpIY z)) s

/-- SBC zpI (43_alu.md R225). -/
def execSbcZpI (z : Byte) (s : State) : Result :=
  subWithCarry (.mem (.zpI z)) s

/-- SBC zpX (43_alu.md R225). -/
def execSbcZpX (z : Byte) (s : State) : Result :=
  subWithCarry (.mem (.zpX z)) s

/-- SBC absY (43_alu.md R225). -/
def execSbcAbsY (a : Word) (s : State) : Result :=
  subWithCarry (.mem (.absY a)) s

/-- SBC absX (43_alu.md R225). -/
def execSbcAbsX (a : Word) (s : State) : Result :=
  subWithCarry (.mem (.absX a)) s

end Sys2Proof.Machine
end

