-- ==== Sys2Proof/Machine/BitOps.lean ====
section
/-! DEFINITION. TSB, TRB and the memory bit instructions (44_rmw_bit.md R272 to R308). -/

namespace Sys2Proof.Machine

/-- TSB zp (44_rmw_bit.md R272). -/
def execTsbZp (z : Byte) (s : State) : Result :=
  testModify (fun v a => v ||| a) (.zp z) s

/-- TSB abs (44_rmw_bit.md R272). -/
def execTsbAbs (a : Word) (s : State) : Result :=
  testModify (fun v a => v ||| a) (.abs a) s

/-- RMB0 zp (44_rmw_bit.md R277). -/
def execRmb0 (z : Byte) (s : State) : Result :=
  changeBit 0 false (.zp z) s

/-- BBR0 zprel (44_rmw_bit.md R293). -/
def execBbr0 (z : Byte) (r : Byte) (s : State) : Result :=
  branchBit 0 false z r s

/-- TRB zp (44_rmw_bit.md R273). -/
def execTrbZp (z : Byte) (s : State) : Result :=
  testModify (fun v a => v &&& ~~~a) (.zp z) s

/-- TRB abs (44_rmw_bit.md R273). -/
def execTrbAbs (a : Word) (s : State) : Result :=
  testModify (fun v a => v &&& ~~~a) (.abs a) s

/-- RMB1 zp (44_rmw_bit.md R278). -/
def execRmb1 (z : Byte) (s : State) : Result :=
  changeBit 1 false (.zp z) s

/-- BBR1 zprel (44_rmw_bit.md R294). -/
def execBbr1 (z : Byte) (r : Byte) (s : State) : Result :=
  branchBit 1 false z r s

/-- RMB2 zp (44_rmw_bit.md R279). -/
def execRmb2 (z : Byte) (s : State) : Result :=
  changeBit 2 false (.zp z) s

/-- BBR2 zprel (44_rmw_bit.md R295). -/
def execBbr2 (z : Byte) (r : Byte) (s : State) : Result :=
  branchBit 2 false z r s

/-- RMB3 zp (44_rmw_bit.md R280). -/
def execRmb3 (z : Byte) (s : State) : Result :=
  changeBit 3 false (.zp z) s

/-- BBR3 zprel (44_rmw_bit.md R296). -/
def execBbr3 (z : Byte) (r : Byte) (s : State) : Result :=
  branchBit 3 false z r s

/-- RMB4 zp (44_rmw_bit.md R281). -/
def execRmb4 (z : Byte) (s : State) : Result :=
  changeBit 4 false (.zp z) s

/-- BBR4 zprel (44_rmw_bit.md R297). -/
def execBbr4 (z : Byte) (r : Byte) (s : State) : Result :=
  branchBit 4 false z r s

/-- RMB5 zp (44_rmw_bit.md R282). -/
def execRmb5 (z : Byte) (s : State) : Result :=
  changeBit 5 false (.zp z) s

/-- BBR5 zprel (44_rmw_bit.md R298). -/
def execBbr5 (z : Byte) (r : Byte) (s : State) : Result :=
  branchBit 5 false z r s

/-- RMB6 zp (44_rmw_bit.md R283). -/
def execRmb6 (z : Byte) (s : State) : Result :=
  changeBit 6 false (.zp z) s

/-- BBR6 zprel (44_rmw_bit.md R299). -/
def execBbr6 (z : Byte) (r : Byte) (s : State) : Result :=
  branchBit 6 false z r s

/-- RMB7 zp (44_rmw_bit.md R284). -/
def execRmb7 (z : Byte) (s : State) : Result :=
  changeBit 7 false (.zp z) s

/-- BBR7 zprel (44_rmw_bit.md R300). -/
def execBbr7 (z : Byte) (r : Byte) (s : State) : Result :=
  branchBit 7 false z r s

/-- SMB0 zp (44_rmw_bit.md R285). -/
def execSmb0 (z : Byte) (s : State) : Result :=
  changeBit 0 true (.zp z) s

/-- BBS0 zprel (44_rmw_bit.md R301). -/
def execBbs0 (z : Byte) (r : Byte) (s : State) : Result :=
  branchBit 0 true z r s

/-- SMB1 zp (44_rmw_bit.md R286). -/
def execSmb1 (z : Byte) (s : State) : Result :=
  changeBit 1 true (.zp z) s

/-- BBS1 zprel (44_rmw_bit.md R302). -/
def execBbs1 (z : Byte) (r : Byte) (s : State) : Result :=
  branchBit 1 true z r s

/-- SMB2 zp (44_rmw_bit.md R287). -/
def execSmb2 (z : Byte) (s : State) : Result :=
  changeBit 2 true (.zp z) s

/-- BBS2 zprel (44_rmw_bit.md R303). -/
def execBbs2 (z : Byte) (r : Byte) (s : State) : Result :=
  branchBit 2 true z r s

/-- SMB3 zp (44_rmw_bit.md R288). -/
def execSmb3 (z : Byte) (s : State) : Result :=
  changeBit 3 true (.zp z) s

/-- BBS3 zprel (44_rmw_bit.md R304). -/
def execBbs3 (z : Byte) (r : Byte) (s : State) : Result :=
  branchBit 3 true z r s

/-- SMB4 zp (44_rmw_bit.md R289). -/
def execSmb4 (z : Byte) (s : State) : Result :=
  changeBit 4 true (.zp z) s

/-- BBS4 zprel (44_rmw_bit.md R305). -/
def execBbs4 (z : Byte) (r : Byte) (s : State) : Result :=
  branchBit 4 true z r s

/-- SMB5 zp (44_rmw_bit.md R290). -/
def execSmb5 (z : Byte) (s : State) : Result :=
  changeBit 5 true (.zp z) s

/-- BBS5 zprel (44_rmw_bit.md R306). -/
def execBbs5 (z : Byte) (r : Byte) (s : State) : Result :=
  branchBit 5 true z r s

/-- SMB6 zp (44_rmw_bit.md R291). -/
def execSmb6 (z : Byte) (s : State) : Result :=
  changeBit 6 true (.zp z) s

/-- BBS6 zprel (44_rmw_bit.md R307). -/
def execBbs6 (z : Byte) (r : Byte) (s : State) : Result :=
  branchBit 6 true z r s

/-- SMB7 zp (44_rmw_bit.md R292). -/
def execSmb7 (z : Byte) (s : State) : Result :=
  changeBit 7 true (.zp z) s

/-- BBS7 zprel (44_rmw_bit.md R308). -/
def execBbs7 (z : Byte) (r : Byte) (s : State) : Result :=
  branchBit 7 true z r s

end Sys2Proof.Machine
end

