-- ==== Sys2Proof/Machine/Branch.lean ====
section
/-! DEFINITION. The nine rel-mode branches and their rel16 forms (46_control.md R340 to R350). -/

namespace Sys2Proof.Machine

/-- BPL rel (46_control.md R342). -/
def execBplRel (r : Byte) (s : State) : Result :=
  branchIf (!getFlag .n s.p) (s.relTarget r) s

/-- BPL rel16 (46_control.md R341). -/
def execBplRel16 (r : Word) (s : State) : Result :=
  branchIf (!getFlag .n s.p) (s.rel16Target r) s

/-- BMI rel (46_control.md R343). -/
def execBmiRel (r : Byte) (s : State) : Result :=
  branchIf (getFlag .n s.p) (s.relTarget r) s

/-- BMI rel16 (46_control.md R341). -/
def execBmiRel16 (r : Word) (s : State) : Result :=
  branchIf (getFlag .n s.p) (s.rel16Target r) s

/-- BVC rel (46_control.md R344). -/
def execBvcRel (r : Byte) (s : State) : Result :=
  branchIf (!getFlag .v s.p) (s.relTarget r) s

/-- BVC rel16 (46_control.md R341). -/
def execBvcRel16 (r : Word) (s : State) : Result :=
  branchIf (!getFlag .v s.p) (s.rel16Target r) s

/-- BVS rel (46_control.md R345). -/
def execBvsRel (r : Byte) (s : State) : Result :=
  branchIf (getFlag .v s.p) (s.relTarget r) s

/-- BVS rel16 (46_control.md R341). -/
def execBvsRel16 (r : Word) (s : State) : Result :=
  branchIf (getFlag .v s.p) (s.rel16Target r) s

/-- BRA rel (46_control.md R350). -/
def execBraRel (r : Byte) (s : State) : Result :=
  branchIf true (s.relTarget r) s

/-- BRA rel16 (46_control.md R341). -/
def execBraRel16 (r : Word) (s : State) : Result :=
  branchIf true (s.rel16Target r) s

/-- BCC rel (46_control.md R346). -/
def execBccRel (r : Byte) (s : State) : Result :=
  branchIf (!getFlag .c s.p) (s.relTarget r) s

/-- BCC rel16 (46_control.md R341). -/
def execBccRel16 (r : Word) (s : State) : Result :=
  branchIf (!getFlag .c s.p) (s.rel16Target r) s

/-- BCS rel (46_control.md R347). -/
def execBcsRel (r : Byte) (s : State) : Result :=
  branchIf (getFlag .c s.p) (s.relTarget r) s

/-- BCS rel16 (46_control.md R341). -/
def execBcsRel16 (r : Word) (s : State) : Result :=
  branchIf (getFlag .c s.p) (s.rel16Target r) s

/-- BNE rel (46_control.md R348). -/
def execBneRel (r : Byte) (s : State) : Result :=
  branchIf (!getFlag .z s.p) (s.relTarget r) s

/-- BNE rel16 (46_control.md R341). -/
def execBneRel16 (r : Word) (s : State) : Result :=
  branchIf (!getFlag .z s.p) (s.rel16Target r) s

/-- BEQ rel (46_control.md R349). -/
def execBeqRel (r : Byte) (s : State) : Result :=
  branchIf (getFlag .z s.p) (s.relTarget r) s

/-- BEQ rel16 (46_control.md R341). -/
def execBeqRel16 (r : Word) (s : State) : Result :=
  branchIf (getFlag .z s.p) (s.rel16Target r) s

end Sys2Proof.Machine
end

