-- ==== Sys2Proof/Machine/Compare.lean ====
section
/-! DEFINITION. CMP, CPX, CPY and BIT (43_alu.md R229 to R234). -/

namespace Sys2Proof.Machine

/-- BIT zp (43_alu.md R233). -/
def execBitZp (z : Byte) (s : State) : Result :=
  bitMem (.zp z) s

/-- BIT abs (43_alu.md R233). -/
def execBitAbs (a : Word) (s : State) : Result :=
  bitMem (.abs a) s

/-- BIT zpX (43_alu.md R233). -/
def execBitZpX (z : Byte) (s : State) : Result :=
  bitMem (.zpX z) s

/-- BIT absX (43_alu.md R233). -/
def execBitAbsX (a : Word) (s : State) : Result :=
  bitMem (.absX a) s

/-- BIT imm (43_alu.md R234). -/
def execBitImm (v : Word) (s : State) : Result :=
  bitImmediate v s

/-- CPY imm (43_alu.md R232). -/
def execCpyImm (v : Word) (s : State) : Result :=
  compareReg .y (.imm v) s

/-- CPY zp (43_alu.md R232). -/
def execCpyZp (z : Byte) (s : State) : Result :=
  compareReg .y (.mem (.zp z)) s

/-- CPY abs (43_alu.md R232). -/
def execCpyAbs (a : Word) (s : State) : Result :=
  compareReg .y (.mem (.abs a)) s

/-- CMP zpXI (43_alu.md R230). -/
def execCmpZpXI (z : Byte) (s : State) : Result :=
  compareReg .a (.mem (.zpXI z)) s

/-- CMP zp (43_alu.md R230). -/
def execCmpZp (z : Byte) (s : State) : Result :=
  compareReg .a (.mem (.zp z)) s

/-- CMP imm (43_alu.md R230). -/
def execCmpImm (v : Word) (s : State) : Result :=
  compareReg .a (.imm v) s

/-- CMP abs (43_alu.md R230). -/
def execCmpAbs (a : Word) (s : State) : Result :=
  compareReg .a (.mem (.abs a)) s

/-- CMP zpIY (43_alu.md R230). -/
def execCmpZpIY (z : Byte) (s : State) : Result :=
  compareReg .a (.mem (.zpIY z)) s

/-- CMP zpI (43_alu.md R230). -/
def execCmpZpI (z : Byte) (s : State) : Result :=
  compareReg .a (.mem (.zpI z)) s

/-- CMP zpX (43_alu.md R230). -/
def execCmpZpX (z : Byte) (s : State) : Result :=
  compareReg .a (.mem (.zpX z)) s

/-- CMP absY (43_alu.md R230). -/
def execCmpAbsY (a : Word) (s : State) : Result :=
  compareReg .a (.mem (.absY a)) s

/-- CMP absX (43_alu.md R230). -/
def execCmpAbsX (a : Word) (s : State) : Result :=
  compareReg .a (.mem (.absX a)) s

/-- CPX imm (43_alu.md R231). -/
def execCpxImm (v : Word) (s : State) : Result :=
  compareX (.imm v) s

/-- CPX zp (43_alu.md R231). -/
def execCpxZp (z : Byte) (s : State) : Result :=
  compareX (.mem (.zp z)) s

/-- CPX abs (43_alu.md R231). -/
def execCpxAbs (a : Word) (s : State) : Result :=
  compareX (.mem (.abs a)) s

end Sys2Proof.Machine
end

