-- ==== Sys2Proof/Machine/Count.lean ====
section
/-! DEFINITION. The increments and decrements (44_rmw_bit.md R266 to R271). -/

namespace Sys2Proof.Machine

/-- INC acc (44_rmw_bit.md R266). -/
def execIncAcc (s : State) : Result :=
  rmwReg incFn .a s

/-- INC zp (44_rmw_bit.md R266). -/
def execIncZp (z : Byte) (s : State) : Result :=
  rmwMem incFn (.zp z) s

/-- INC abs (44_rmw_bit.md R266). -/
def execIncAbs (a : Word) (s : State) : Result :=
  rmwMem incFn (.abs a) s

/-- INC zpX (44_rmw_bit.md R266). -/
def execIncZpX (z : Byte) (s : State) : Result :=
  rmwMem incFn (.zpX z) s

/-- INC absX (44_rmw_bit.md R266). -/
def execIncAbsX (a : Word) (s : State) : Result :=
  rmwMem incFn (.absX a) s

/-- DEC acc (44_rmw_bit.md R267). -/
def execDecAcc (s : State) : Result :=
  rmwReg decFn .a s

/-- DEC zp (44_rmw_bit.md R267). -/
def execDecZp (z : Byte) (s : State) : Result :=
  rmwMem decFn (.zp z) s

/-- DEC abs (44_rmw_bit.md R267). -/
def execDecAbs (a : Word) (s : State) : Result :=
  rmwMem decFn (.abs a) s

/-- DEC zpX (44_rmw_bit.md R267). -/
def execDecZpX (z : Byte) (s : State) : Result :=
  rmwMem decFn (.zpX z) s

/-- DEC absX (44_rmw_bit.md R267). -/
def execDecAbsX (a : Word) (s : State) : Result :=
  rmwMem decFn (.absX a) s

/-- DEY imp (44_rmw_bit.md R271). -/
def execDey (s : State) : Result :=
  rmwReg decFn .y s

/-- INY imp (44_rmw_bit.md R269). -/
def execIny (s : State) : Result :=
  rmwReg incFn .y s

/-- DEX imp (44_rmw_bit.md R270). -/
def execDex (s : State) : Result :=
  rmwReg decFn .x s

/-- INX imp (44_rmw_bit.md R268). -/
def execInx (s : State) : Result :=
  rmwReg incFn .x s

end Sys2Proof.Machine
end

