-- ==== Sys2Proof/Machine/Forth.lean ====
section
/-! DEFINITION. The Forth-VM instructions (47_forth_vm.md R390 to R396). -/

namespace Sys2Proof.Machine

/-- NXT imp (47_forth_vm.md R392). -/
def execNxt (s : State) : Result :=
  .next (nextWord s)

/-- ENT imp (47_forth_vm.md R393). -/
def execEnt (s : State) : Result :=
  .next (nextWord { s.push16 s.ip with ip := s.wp })

/-- PHI imp (47_forth_vm.md R394). -/
def execPhi (s : State) : Result :=
  .next (s.push16 s.ip)

/-- PLI imp (47_forth_vm.md R395). -/
def execPli (s : State) : Result :=
  .next { s.pull16.st with ip := s.pull16.val }

/-- INI imp (47_forth_vm.md R396). -/
def execIni (s : State) : Result :=
  .next { s with ip := s.ip + BitVec.ofNat 16 s.width.bytes }

end Sys2Proof.Machine
end

