-- ==== Sys2Proof/Machine/Jump.lean ====
section
/-! DEFINITION. JMP, JSR and RTS (46_control.md R360 to R369). -/

namespace Sys2Proof.Machine

/-- JSR: osx is ignored; PC before the push is the JSR's address plus 3 (46_control.md R366). -/
def execJsr (a : Word) (s : State) : Result :=
  .next { (s.countReads s.indReads).push16 (s.pc - 1#16) with pc := s.jumpTarget a }

/-- JMP abs: osx is ignored, ind makes it indirect (46_control.md R365). -/
def execJmpAbs (a : Word) (s : State) : Result :=
  .next { s.countReads s.indReads with pc := s.jumpTarget a }

/-- JMP absI (46_control.md R367). -/
def execJmpAbsI (a : Word) (s : State) : Result :=
  .next { s.countReads (s.pointerReads (.absI a)) with pc := (s.effAddr (.absI a)).addr }

/-- JMP absXI (46_control.md R368). -/
def execJmpAbsXI (a : Word) (s : State) : Result :=
  guardExchange s { s.countReads (s.pointerReads (.absXI a)) with pc := (s.effAddr (.absXI a)).addr }

/-- RTS imp (46_control.md R369). -/
def execRts (s : State) : Result :=
  .next { s.pull16.st with pc := s.pull16.val + 1#16 }

end Sys2Proof.Machine
end

