-- ==== Sys2Proof/Machine/Load.lean ====
section
/-! DEFINITION. The loads LDA, LDX and LDY (42_load_store_transfer.md R172 to R174). -/

namespace Sys2Proof.Machine

/-- LDY imm (42_load_store_transfer.md R174). -/
def execLdyImm (v : Word) (s : State) : Result :=
  loadReg .y (.imm v) s

/-- LDY zp (42_load_store_transfer.md R174). -/
def execLdyZp (z : Byte) (s : State) : Result :=
  loadReg .y (.mem (.zp z)) s

/-- LDY abs (42_load_store_transfer.md R174). -/
def execLdyAbs (a : Word) (s : State) : Result :=
  loadReg .y (.mem (.abs a)) s

/-- LDY zpX (42_load_store_transfer.md R174). -/
def execLdyZpX (z : Byte) (s : State) : Result :=
  loadReg .y (.mem (.zpX z)) s

/-- LDY absX (42_load_store_transfer.md R174). -/
def execLdyAbsX (a : Word) (s : State) : Result :=
  loadReg .y (.mem (.absX a)) s

/-- LDA zpXI (42_load_store_transfer.md R172). -/
def execLdaZpXI (z : Byte) (s : State) : Result :=
  loadReg .a (.mem (.zpXI z)) s

/-- LDA zp (42_load_store_transfer.md R172). -/
def execLdaZp (z : Byte) (s : State) : Result :=
  loadReg .a (.mem (.zp z)) s

/-- LDA imm (42_load_store_transfer.md R172). -/
def execLdaImm (v : Word) (s : State) : Result :=
  loadReg .a (.imm v) s

/-- LDA abs (42_load_store_transfer.md R172). -/
def execLdaAbs (a : Word) (s : State) : Result :=
  loadReg .a (.mem (.abs a)) s

/-- LDA zpIY (42_load_store_transfer.md R172). -/
def execLdaZpIY (z : Byte) (s : State) : Result :=
  loadReg .a (.mem (.zpIY z)) s

/-- LDA zpI (42_load_store_transfer.md R172). -/
def execLdaZpI (z : Byte) (s : State) : Result :=
  loadReg .a (.mem (.zpI z)) s

/-- LDA zpX (42_load_store_transfer.md R172). -/
def execLdaZpX (z : Byte) (s : State) : Result :=
  loadReg .a (.mem (.zpX z)) s

/-- LDA absY (42_load_store_transfer.md R172). -/
def execLdaAbsY (a : Word) (s : State) : Result :=
  loadReg .a (.mem (.absY a)) s

/-- LDA absX (42_load_store_transfer.md R172). -/
def execLdaAbsX (a : Word) (s : State) : Result :=
  loadReg .a (.mem (.absX a)) s

/-- LDX imm (42_load_store_transfer.md R173). -/
def execLdxImm (v : Word) (s : State) : Result :=
  loadX (.imm v) s

/-- LDX zp (42_load_store_transfer.md R173). -/
def execLdxZp (z : Byte) (s : State) : Result :=
  loadX (.mem (.zp z)) s

/-- LDX abs (42_load_store_transfer.md R173). -/
def execLdxAbs (a : Word) (s : State) : Result :=
  loadX (.mem (.abs a)) s

/-- LDX zpY (42_load_store_transfer.md R173). -/
def execLdxZpY (z : Byte) (s : State) : Result :=
  loadX (.mem (.zpY z)) s

/-- LDX absY (42_load_store_transfer.md R173). -/
def execLdxAbsY (a : Word) (s : State) : Result :=
  loadX (.mem (.absY a)) s

end Sys2Proof.Machine
end

