-- ==== Sys2Proof/Machine/Logic.lean ====
section
/-! DEFINITION. AND, ORA and EOR (43_alu.md R226 to R228). -/

namespace Sys2Proof.Machine

/-- ORA zpXI (43_alu.md R227). -/
def execOraZpXI (z : Byte) (s : State) : Result :=
  logic (· ||| ·) (.mem (.zpXI z)) s

/-- ORA zp (43_alu.md R227). -/
def execOraZp (z : Byte) (s : State) : Result :=
  logic (· ||| ·) (.mem (.zp z)) s

/-- ORA imm (43_alu.md R227). -/
def execOraImm (v : Word) (s : State) : Result :=
  logic (· ||| ·) (.imm v) s

/-- ORA abs (43_alu.md R227). -/
def execOraAbs (a : Word) (s : State) : Result :=
  logic (· ||| ·) (.mem (.abs a)) s

/-- ORA zpIY (43_alu.md R227). -/
def execOraZpIY (z : Byte) (s : State) : Result :=
  logic (· ||| ·) (.mem (.zpIY z)) s

/-- ORA zpI (43_alu.md R227). -/
def execOraZpI (z : Byte) (s : State) : Result :=
  logic (· ||| ·) (.mem (.zpI z)) s

/-- ORA zpX (43_alu.md R227). -/
def execOraZpX (z : Byte) (s : State) : Result :=
  logic (· ||| ·) (.mem (.zpX z)) s

/-- ORA absY (43_alu.md R227). -/
def execOraAbsY (a : Word) (s : State) : Result :=
  logic (· ||| ·) (.mem (.absY a)) s

/-- ORA absX (43_alu.md R227). -/
def execOraAbsX (a : Word) (s : State) : Result :=
  logic (· ||| ·) (.mem (.absX a)) s

/-- AND zpXI (43_alu.md R226). -/
def execAndZpXI (z : Byte) (s : State) : Result :=
  logic (· &&& ·) (.mem (.zpXI z)) s

/-- AND zp (43_alu.md R226). -/
def execAndZp (z : Byte) (s : State) : Result :=
  logic (· &&& ·) (.mem (.zp z)) s

/-- AND imm (43_alu.md R226). -/
def execAndImm (v : Word) (s : State) : Result :=
  logic (· &&& ·) (.imm v) s

/-- AND abs (43_alu.md R226). -/
def execAndAbs (a : Word) (s : State) : Result :=
  logic (· &&& ·) (.mem (.abs a)) s

/-- AND zpIY (43_alu.md R226). -/
def execAndZpIY (z : Byte) (s : State) : Result :=
  logic (· &&& ·) (.mem (.zpIY z)) s

/-- AND zpI (43_alu.md R226). -/
def execAndZpI (z : Byte) (s : State) : Result :=
  logic (· &&& ·) (.mem (.zpI z)) s

/-- AND zpX (43_alu.md R226). -/
def execAndZpX (z : Byte) (s : State) : Result :=
  logic (· &&& ·) (.mem (.zpX z)) s

/-- AND absY (43_alu.md R226). -/
def execAndAbsY (a : Word) (s : State) : Result :=
  logic (· &&& ·) (.mem (.absY a)) s

/-- AND absX (43_alu.md R226). -/
def execAndAbsX (a : Word) (s : State) : Result :=
  logic (· &&& ·) (.mem (.absX a)) s

/-- EOR zpXI (43_alu.md R228). -/
def execEorZpXI (z : Byte) (s : State) : Result :=
  logic (· ^^^ ·) (.mem (.zpXI z)) s

/-- EOR zp (43_alu.md R228). -/
def execEorZp (z : Byte) (s : State) : Result :=
  logic (· ^^^ ·) (.mem (.zp z)) s

/-- EOR imm (43_alu.md R228). -/
def execEorImm (v : Word) (s : State) : Result :=
  logic (· ^^^ ·) (.imm v) s

/-- EOR abs (43_alu.md R228). -/
def execEorAbs (a : Word) (s : State) : Result :=
  logic (· ^^^ ·) (.mem (.abs a)) s

/-- EOR zpIY (43_alu.md R228). -/
def execEorZpIY (z : Byte) (s : State) : Result :=
  logic (· ^^^ ·) (.mem (.zpIY z)) s

/-- EOR zpI (43_alu.md R228). -/
def execEorZpI (z : Byte) (s : State) : Result :=
  logic (· ^^^ ·) (.mem (.zpI z)) s

/-- EOR zpX (43_alu.md R228). -/
def execEorZpX (z : Byte) (s : State) : Result :=
  logic (· ^^^ ·) (.mem (.zpX z)) s

/-- EOR absY (43_alu.md R228). -/
def execEorAbsY (a : Word) (s : State) : Result :=
  logic (· ^^^ ·) (.mem (.absY a)) s

/-- EOR absX (43_alu.md R228). -/
def execEorAbsX (a : Word) (s : State) : Result :=
  logic (· ^^^ ·) (.mem (.absX a)) s

end Sys2Proof.Machine
end

