-- ==== Sys2Proof/Machine/Prefixes.lean ====
section
/-! DEFINITION. The eight prefix instructions (41_prefix.md R161 to R168). -/

namespace Sys2Proof.Machine

/-- OSX imp (41_prefix.md R161). -/
def execOsx (s : State) : Result :=
  setPrefix (fun ps => { ps with osx := true }) s

/-- IND imp (41_prefix.md R162). -/
def execInd (s : State) : Result :=
  setPrefix (fun ps => { ps with ind := true }) s

/-- SIZ imp (41_prefix.md R163). -/
def execSiz (s : State) : Result :=
  setPrefix (fun ps => { ps with siz := true }) s

/-- OAX imp (41_prefix.md R164). -/
def execOax (s : State) : Result :=
  setPrefix (fun ps => { ps with oax := true }) s

/-- OAY imp (41_prefix.md R165). -/
def execOay (s : State) : Result :=
  setPrefix (fun ps => { ps with oay := true }) s

/-- OSZ imp (41_prefix.md R166). -/
def execOsz (s : State) : Result :=
  setPrefix (fun ps => { ps with osx := true, siz := true }) s

/-- OIS imp (41_prefix.md R167). -/
def execOis (s : State) : Result :=
  match s.cfg.oisFlags with
  | .osxIndSiz => setPrefix (fun ps => { ps with osx := true, ind := true, siz := true }) s
  | .osxInd => setPrefix (fun ps => { ps with osx := true, ind := true }) s

/-- ISZ imp (41_prefix.md R168). -/
def execIsz (s : State) : Result :=
  setPrefix (fun ps => { ps with ind := true, siz := true }) s

end Sys2Proof.Machine
end

