-- ==== Sys2Proof/Machine/Shift.lean ====
section
/-! DEFINITION. The shifts and rotates, and ASR (44_rmw_bit.md R262 to R265, R276). -/

namespace Sys2Proof.Machine

/-- ASL zp (44_rmw_bit.md R262). -/
def execAslZp (z : Byte) (s : State) : Result :=
  rmwMem aslFn (.zp z) s

/-- ASL acc (44_rmw_bit.md R262). -/
def execAslAcc (s : State) : Result :=
  rmwReg aslFn .a s

/-- ASL abs (44_rmw_bit.md R262). -/
def execAslAbs (a : Word) (s : State) : Result :=
  rmwMem aslFn (.abs a) s

/-- ASL zpX (44_rmw_bit.md R262). -/
def execAslZpX (z : Byte) (s : State) : Result :=
  rmwMem aslFn (.zpX z) s

/-- ASL absX (44_rmw_bit.md R262). -/
def execAslAbsX (a : Word) (s : State) : Result :=
  rmwMem aslFn (.absX a) s

/-- ROL zp (44_rmw_bit.md R264). -/
def execRolZp (z : Byte) (s : State) : Result :=
  rmwMem rolFn (.zp z) s

/-- ROL acc (44_rmw_bit.md R264). -/
def execRolAcc (s : State) : Result :=
  rmwReg rolFn .a s

/-- ROL abs (44_rmw_bit.md R264). -/
def execRolAbs (a : Word) (s : State) : Result :=
  rmwMem rolFn (.abs a) s

/-- ROL zpX (44_rmw_bit.md R264). -/
def execRolZpX (z : Byte) (s : State) : Result :=
  rmwMem rolFn (.zpX z) s

/-- ROL absX (44_rmw_bit.md R264). -/
def execRolAbsX (a : Word) (s : State) : Result :=
  rmwMem rolFn (.absX a) s

/-- LSR zp (44_rmw_bit.md R263). -/
def execLsrZp (z : Byte) (s : State) : Result :=
  rmwMem lsrFn (.zp z) s

/-- LSR acc, which is ASR at W = 16 under ind (44_rmw_bit.md R263, R276). -/
def execLsrAcc (s : State) : Result :=
  if s.ps.ind && s.ps.siz then arithShift s else rmwReg lsrFn .a s

/-- LSR abs (44_rmw_bit.md R263). -/
def execLsrAbs (a : Word) (s : State) : Result :=
  rmwMem lsrFn (.abs a) s

/-- LSR zpX (44_rmw_bit.md R263). -/
def execLsrZpX (z : Byte) (s : State) : Result :=
  rmwMem lsrFn (.zpX z) s

/-- LSR absX (44_rmw_bit.md R263). -/
def execLsrAbsX (a : Word) (s : State) : Result :=
  rmwMem lsrFn (.absX a) s

/-- ROR zp (44_rmw_bit.md R265). -/
def execRorZp (z : Byte) (s : State) : Result :=
  rmwMem rorFn (.zp z) s

/-- ROR acc (44_rmw_bit.md R265). -/
def execRorAcc (s : State) : Result :=
  rmwReg rorFn .a s

/-- ROR abs (44_rmw_bit.md R265). -/
def execRorAbs (a : Word) (s : State) : Result :=
  rmwMem rorFn (.abs a) s

/-- ROR zpX (44_rmw_bit.md R265). -/
def execRorZpX (z : Byte) (s : State) : Result :=
  rmwMem rorFn (.zpX z) s

/-- ROR absX (44_rmw_bit.md R265). -/
def execRorAbsX (a : Word) (s : State) : Result :=
  rmwMem rorFn (.absX a) s

/-- ASR acc (44_rmw_bit.md R276). -/
def execAsr (s : State) : Result :=
  arithShift s

end Sys2Proof.Machine
end

