-- ==== Sys2Proof/Machine/Stack.lean ====
section
/-! DEFINITION. Pushes, pulls and the register-stack instructions (45_stack.md R315 to R327). -/

namespace Sys2Proof.Machine

/-- PHP imp (45_stack.md R318). -/
def execPhp (s : State) : Result :=
  .next (s.push8 (withBreak s.p))

/-- PLP: M keeps its value (45_stack.md R319). -/
def execPlp (s : State) : Result :=
  .next { s.pull8.st with p := setFlag .m (getFlag .m s.p) (withBreak s.pull8.val) }

/-- PHA imp (45_stack.md R315). -/
def execPha (s : State) : Result :=
  pushReg .a s

/-- PHY imp (45_stack.md R317). -/
def execPhy (s : State) : Result :=
  pushReg .y s

/-- PLA imp (45_stack.md R320). -/
def execPla (s : State) : Result :=
  pullReg .a s

/-- PLY imp (45_stack.md R322). -/
def execPly (s : State) : Result :=
  pullReg .y s

/-- PHX imp (45_stack.md R316). -/
def execPhx (s : State) : Result :=
  pushReg .x s

/-- PLX imp (45_stack.md R321). -/
def execPlx (s : State) : Result :=
  pullReg .x s

/-- DUP imp (45_stack.md R325). -/
def execDup (s : State) : Result :=
  moveStack (fun r => { tos := r.tos, nos := r.tos, bos := r.nos }) s

/-- SWP imp (45_stack.md R326). -/
def execSwp (s : State) : Result :=
  moveStack (fun r => { tos := r.nos, nos := r.tos, bos := r.bos }) s

/-- ROT imp (45_stack.md R327). -/
def execRot (s : State) : Result :=
  moveStack (fun r => { tos := r.bos, nos := r.tos, bos := r.nos }) s

end Sys2Proof.Machine
end

