-- ==== Sys2Proof/Machine/Store.lean ====
section
/-! DEFINITION. The stores STA, STX, STY and STZ (42_load_store_transfer.md R175 to R178). -/

namespace Sys2Proof.Machine

/-- STZ zp (42_load_store_transfer.md R178). -/
def execStzZp (z : Byte) (s : State) : Result :=
  storeZero (.zp z) s

/-- STZ zpX (42_load_store_transfer.md R178). -/
def execStzZpX (z : Byte) (s : State) : Result :=
  storeZero (.zpX z) s

/-- STZ abs (42_load_store_transfer.md R178). -/
def execStzAbs (a : Word) (s : State) : Result :=
  storeZero (.abs a) s

/-- STZ absX (42_load_store_transfer.md R178). -/
def execStzAbsX (a : Word) (s : State) : Result :=
  storeZero (.absX a) s

/-- STA zpXI (42_load_store_transfer.md R175). -/
def execStaZpXI (z : Byte) (s : State) : Result :=
  storeReg .a (.zpXI z) s

/-- STA zp (42_load_store_transfer.md R175). -/
def execStaZp (z : Byte) (s : State) : Result :=
  storeReg .a (.zp z) s

/-- STA abs (42_load_store_transfer.md R175). -/
def execStaAbs (a : Word) (s : State) : Result :=
  storeReg .a (.abs a) s

/-- STA zpIY (42_load_store_transfer.md R175). -/
def execStaZpIY (z : Byte) (s : State) : Result :=
  storeReg .a (.zpIY z) s

/-- STA zpI (42_load_store_transfer.md R175). -/
def execStaZpI (z : Byte) (s : State) : Result :=
  storeReg .a (.zpI z) s

/-- STA zpX (42_load_store_transfer.md R175). -/
def execStaZpX (z : Byte) (s : State) : Result :=
  storeReg .a (.zpX z) s

/-- STA absY (42_load_store_transfer.md R175). -/
def execStaAbsY (a : Word) (s : State) : Result :=
  storeReg .a (.absY a) s

/-- STA absX (42_load_store_transfer.md R175). -/
def execStaAbsX (a : Word) (s : State) : Result :=
  storeReg .a (.absX a) s

/-- STY zp (42_load_store_transfer.md R177). -/
def execStyZp (z : Byte) (s : State) : Result :=
  storeReg .y (.zp z) s

/-- STY abs (42_load_store_transfer.md R177). -/
def execStyAbs (a : Word) (s : State) : Result :=
  storeReg .y (.abs a) s

/-- STY zpX (42_load_store_transfer.md R177). -/
def execStyZpX (z : Byte) (s : State) : Result :=
  storeReg .y (.zpX z) s

/-- STX zp (42_load_store_transfer.md R176). -/
def execStxZp (z : Byte) (s : State) : Result :=
  storeX (.zp z) s

/-- STX abs (42_load_store_transfer.md R176). -/
def execStxAbs (a : Word) (s : State) : Result :=
  storeX (.abs a) s

/-- STX zpY (42_load_store_transfer.md R176). -/
def execStxZpY (z : Byte) (s : State) : Result :=
  storeX (.zpY z) s

end Sys2Proof.Machine
end

