-- ==== Sys2Proof/Machine/System.lean ====
section
/-! DEFINITION. BRK, RTI, NOP and the flag instructions (46_control.md R370 to R379). -/

namespace Sys2Proof.Machine

/-- BRK: PC skips BRK_RETURN_OFFSET - 1 bytes, then the trap is taken (46_control.md R370). -/
def execBrk (s : State) : Result :=
  .next (trapEntry s.cfg.vecIrq { s with pc := s.pc + s.cfg.brkReturnOffset.toWord - 1#16 })

/-- CLC imp (46_control.md R373). -/
def execClc (s : State) : Result :=
  putFlag .c false s

/-- SEC imp (46_control.md R374). -/
def execSec (s : State) : Result :=
  putFlag .c true s

/-- RTI imp (46_control.md R371). -/
def execRti (s : State) : Result :=
  .next (trapReturn s)

/-- CLI imp (46_control.md R375). -/
def execCli (s : State) : Result :=
  putFlag .i false s

/-- SEI imp (46_control.md R376). -/
def execSei (s : State) : Result :=
  putFlag .i true s

/-- CLV imp (46_control.md R377). -/
def execClv (s : State) : Result :=
  putFlag .v false s

/-- CLD imp (46_control.md R378). -/
def execCld (s : State) : Result :=
  putFlag .d false s

/-- NOP imp (46_control.md R372). -/
def execNop (s : State) : Result :=
  .next s

/-- SED imp (46_control.md R379). -/
def execSed (s : State) : Result :=
  putFlag .d true s

end Sys2Proof.Machine
end

