-- ==== Sys2Proof/Machine/Transfer.lean ====
section
/-! DEFINITION. The transfers between A, X, Y and S (42_load_store_transfer.md R179 to R191). -/

namespace Sys2Proof.Machine

/-- TXA imp (42_load_store_transfer.md R181). -/
def execTxa (s : State) : Result :=
  transfer .x .a s

/-- TYA imp (42_load_store_transfer.md R182). -/
def execTya (s : State) : Result :=
  transfer .y .a s

/-- TXS imp (42_load_store_transfer.md R190). -/
def execTxs (s : State) : Result :=
  guardExchange s (s.wrReg .sp s.width (s.rdReg (s.dataReg .x) s.width))

/-- TAY imp (42_load_store_transfer.md R180). -/
def execTay (s : State) : Result :=
  transfer .a .y s

/-- TAX imp (42_load_store_transfer.md R179). -/
def execTax (s : State) : Result :=
  transfer .a .x s

/-- TSX imp (42_load_store_transfer.md R191). -/
def execTsx (s : State) : Result :=
  guardExchange s
    ((s.wrReg (s.dataReg .x) s.width (s.rdReg .sp s.width)).mapP (flagsNZ s.width (s.rdReg .sp s.width)))

end Sys2Proof.Machine
end

