-- ==== Sys2Proof/Machine/Dispatch.lean ====
section
/-! DEFINITION. The dispatch of an instruction to its meaning. -/

namespace Sys2Proof.Machine

/-- The meaning of an instruction, PC standing at the byte after it (10_state.md R30). -/
def exec (i : Instr) (s : State) : Host.Outcome State Fault Refusal :=
  match i with
  | .brk => Sys2Proof.Machine.execBrk s
  | .oraZpXI z => Sys2Proof.Machine.execOraZpXI z s
  | .tsbZp z => Sys2Proof.Machine.execTsbZp z s
  | .oraZp z => Sys2Proof.Machine.execOraZp z s
  | .aslZp z => Sys2Proof.Machine.execAslZp z s
  | .rmb0 z => Sys2Proof.Machine.execRmb0 z s
  | .php => Sys2Proof.Machine.execPhp s
  | .oraImm v => Sys2Proof.Machine.execOraImm v s
  | .aslAcc => Sys2Proof.Machine.execAslAcc s
  | .tsbAbs a => Sys2Proof.Machine.execTsbAbs a s
  | .oraAbs a => Sys2Proof.Machine.execOraAbs a s
  | .aslAbs a => Sys2Proof.Machine.execAslAbs a s
  | .bbr0 z r => Sys2Proof.Machine.execBbr0 z r s
  | .bplRel r => Sys2Proof.Machine.execBplRel r s
  | .oraZpIY z => Sys2Proof.Machine.execOraZpIY z s
  | .oraZpI z => Sys2Proof.Machine.execOraZpI z s
  | .trbZp z => Sys2Proof.Machine.execTrbZp z s
  | .oraZpX z => Sys2Proof.Machine.execOraZpX z s
  | .aslZpX z => Sys2Proof.Machine.execAslZpX z s
  | .rmb1 z => Sys2Proof.Machine.execRmb1 z s
  | .clc => Sys2Proof.Machine.execClc s
  | .oraAbsY a => Sys2Proof.Machine.execOraAbsY a s
  | .incAcc => Sys2Proof.Machine.execIncAcc s
  | .trbAbs a => Sys2Proof.Machine.execTrbAbs a s
  | .oraAbsX a => Sys2Proof.Machine.execOraAbsX a s
  | .aslAbsX a => Sys2Proof.Machine.execAslAbsX a s
  | .bbr1 z r => Sys2Proof.Machine.execBbr1 z r s
  | .jsr a => Sys2Proof.Machine.execJsr a s
  | .andZpXI z => Sys2Proof.Machine.execAndZpXI z s
  | .bitZp z => Sys2Proof.Machine.execBitZp z s
  | .andZp z => Sys2Proof.Machine.execAndZp z s
  | .rolZp z => Sys2Proof.Machine.execRolZp z s
  | .rmb2 z => Sys2Proof.Machine.execRmb2 z s
  | .plp => Sys2Proof.Machine.execPlp s
  | .andImm v => Sys2Proof.Machine.execAndImm v s
  | .rolAcc => Sys2Proof.Machine.execRolAcc s
  | .bitAbs a => Sys2Proof.Machine.execBitAbs a s
  | .andAbs a => Sys2Proof.Machine.execAndAbs a s
  | .rolAbs a => Sys2Proof.Machine.execRolAbs a s
  | .bbr2 z r => Sys2Proof.Machine.execBbr2 z r s
  | .bmiRel r => Sys2Proof.Machine.execBmiRel r s
  | .andZpIY z => Sys2Proof.Machine.execAndZpIY z s
  | .andZpI z => Sys2Proof.Machine.execAndZpI z s
  | .bitZpX z => Sys2Proof.Machine.execBitZpX z s
  | .andZpX z => Sys2Proof.Machine.execAndZpX z s
  | .rolZpX z => Sys2Proof.Machine.execRolZpX z s
  | .rmb3 z => Sys2Proof.Machine.execRmb3 z s
  | .sec => Sys2Proof.Machine.execSec s
  | .andAbsY a => Sys2Proof.Machine.execAndAbsY a s
  | .decAcc => Sys2Proof.Machine.execDecAcc s
  | .bitAbsX a => Sys2Proof.Machine.execBitAbsX a s
  | .andAbsX a => Sys2Proof.Machine.execAndAbsX a s
  | .rolAbsX a => Sys2Proof.Machine.execRolAbsX a s
  | .bbr3 z r => Sys2Proof.Machine.execBbr3 z r s
  | .rti => Sys2Proof.Machine.execRti s
  | .eorZpXI z => Sys2Proof.Machine.execEorZpXI z s
  | .eorZp z => Sys2Proof.Machine.execEorZp z s
  | .lsrZp z => Sys2Proof.Machine.execLsrZp z s
  | .rmb4 z => Sys2Proof.Machine.execRmb4 z s
  | .pha => Sys2Proof.Machine.execPha s
  | .eorImm v => Sys2Proof.Machine.execEorImm v s
  | .lsrAcc => Sys2Proof.Machine.execLsrAcc s
  | .jmpAbs a => Sys2Proof.Machine.execJmpAbs a s
  | .eorAbs a => Sys2Proof.Machine.execEorAbs a s
  | .lsrAbs a => Sys2Proof.Machine.execLsrAbs a s
  | .bbr4 z r => Sys2Proof.Machine.execBbr4 z r s
  | .bvcRel r => Sys2Proof.Machine.execBvcRel r s
  | .eorZpIY z => Sys2Proof.Machine.execEorZpIY z s
  | .eorZpI z => Sys2Proof.Machine.execEorZpI z s
  | .eorZpX z => Sys2Proof.Machine.execEorZpX z s
  | .lsrZpX z => Sys2Proof.Machine.execLsrZpX z s
  | .rmb5 z => Sys2Proof.Machine.execRmb5 z s
  | .cli => Sys2Proof.Machine.execCli s
  | .eorAbsY a => Sys2Proof.Machine.execEorAbsY a s
  | .phy => Sys2Proof.Machine.execPhy s
  | .eorAbsX a => Sys2Proof.Machine.execEorAbsX a s
  | .lsrAbsX a => Sys2Proof.Machine.execLsrAbsX a s
  | .bbr5 z r => Sys2Proof.Machine.execBbr5 z r s
  | .rts => Sys2Proof.Machine.execRts s
  | .adcZpXI z => Sys2Proof.Machine.execAdcZpXI z s
  | .stzZp z => Sys2Proof.Machine.execStzZp z s
  | .adcZp z => Sys2Proof.Machine.execAdcZp z s
  | .rorZp z => Sys2Proof.Machine.execRorZp z s
  | .rmb6 z => Sys2Proof.Machine.execRmb6 z s
  | .pla => Sys2Proof.Machine.execPla s
  | .adcImm v => Sys2Proof.Machine.execAdcImm v s
  | .rorAcc => Sys2Proof.Machine.execRorAcc s
  | .jmpAbsI a => Sys2Proof.Machine.execJmpAbsI a s
  | .adcAbs a => Sys2Proof.Machine.execAdcAbs a s
  | .rorAbs a => Sys2Proof.Machine.execRorAbs a s
  | .bbr6 z r => Sys2Proof.Machine.execBbr6 z r s
  | .bvsRel r => Sys2Proof.Machine.execBvsRel r s
  | .adcZpIY z => Sys2Proof.Machine.execAdcZpIY z s
  | .adcZpI z => Sys2Proof.Machine.execAdcZpI z s
  | .stzZpX z => Sys2Proof.Machine.execStzZpX z s
  | .adcZpX z => Sys2Proof.Machine.execAdcZpX z s
  | .rorZpX z => Sys2Proof.Machine.execRorZpX z s
  | .rmb7 z => Sys2Proof.Machine.execRmb7 z s
  | .sei => Sys2Proof.Machine.execSei s
  | .adcAbsY a => Sys2Proof.Machine.execAdcAbsY a s
  | .ply => Sys2Proof.Machine.execPly s
  | .jmpAbsXI a => Sys2Proof.Machine.execJmpAbsXI a s
  | .adcAbsX a => Sys2Proof.Machine.execAdcAbsX a s
  | .rorAbsX a => Sys2Proof.Machine.execRorAbsX a s
  | .bbr7 z r => Sys2Proof.Machine.execBbr7 z r s
  | .braRel r => Sys2Proof.Machine.execBraRel r s
  | .staZpXI z => Sys2Proof.Machine.execStaZpXI z s
  | .styZp z => Sys2Proof.Machine.execStyZp z s
  | .staZp z => Sys2Proof.Machine.execStaZp z s
  | .stxZp z => Sys2Proof.Machine.execStxZp z s
  | .smb0 z => Sys2Proof.Machine.execSmb0 z s
  | .dey => Sys2Proof.Machine.execDey s
  | .bitImm v => Sys2Proof.Machine.execBitImm v s
  | .txa => Sys2Proof.Machine.execTxa s
  | .styAbs a => Sys2Proof.Machine.execStyAbs a s
  | .staAbs a => Sys2Proof.Machine.execStaAbs a s
  | .stxAbs a => Sys2Proof.Machine.execStxAbs a s
  | .bbs0 z r => Sys2Proof.Machine.execBbs0 z r s
  | .bccRel r => Sys2Proof.Machine.execBccRel r s
  | .staZpIY z => Sys2Proof.Machine.execStaZpIY z s
  | .staZpI z => Sys2Proof.Machine.execStaZpI z s
  | .styZpX z => Sys2Proof.Machine.execStyZpX z s
  | .staZpX z => Sys2Proof.Machine.execStaZpX z s
  | .stxZpY z => Sys2Proof.Machine.execStxZpY z s
  | .smb1 z => Sys2Proof.Machine.execSmb1 z s
  | .tya => Sys2Proof.Machine.execTya s
  | .staAbsY a => Sys2Proof.Machine.execStaAbsY a s
  | .txs => Sys2Proof.Machine.execTxs s
  | .stzAbs a => Sys2Proof.Machine.execStzAbs a s
  | .staAbsX a => Sys2Proof.Machine.execStaAbsX a s
  | .stzAbsX a => Sys2Proof.Machine.execStzAbsX a s
  | .bbs1 z r => Sys2Proof.Machine.execBbs1 z r s
  | .ldyImm v => Sys2Proof.Machine.execLdyImm v s
  | .ldaZpXI z => Sys2Proof.Machine.execLdaZpXI z s
  | .ldxImm v => Sys2Proof.Machine.execLdxImm v s
  | .ldyZp z => Sys2Proof.Machine.execLdyZp z s
  | .ldaZp z => Sys2Proof.Machine.execLdaZp z s
  | .ldxZp z => Sys2Proof.Machine.execLdxZp z s
  | .smb2 z => Sys2Proof.Machine.execSmb2 z s
  | .tay => Sys2Proof.Machine.execTay s
  | .ldaImm v => Sys2Proof.Machine.execLdaImm v s
  | .tax => Sys2Proof.Machine.execTax s
  | .ldyAbs a => Sys2Proof.Machine.execLdyAbs a s
  | .ldaAbs a => Sys2Proof.Machine.execLdaAbs a s
  | .ldxAbs a => Sys2Proof.Machine.execLdxAbs a s
  | .bbs2 z r => Sys2Proof.Machine.execBbs2 z r s
  | .bcsRel r => Sys2Proof.Machine.execBcsRel r s
  | .ldaZpIY z => Sys2Proof.Machine.execLdaZpIY z s
  | .ldaZpI z => Sys2Proof.Machine.execLdaZpI z s
  | .ldyZpX z => Sys2Proof.Machine.execLdyZpX z s
  | .ldaZpX z => Sys2Proof.Machine.execLdaZpX z s
  | .ldxZpY z => Sys2Proof.Machine.execLdxZpY z s
  | .smb3 z => Sys2Proof.Machine.execSmb3 z s
  | .clv => Sys2Proof.Machine.execClv s
  | .ldaAbsY a => Sys2Proof.Machine.execLdaAbsY a s
  | .tsx => Sys2Proof.Machine.execTsx s
  | .ldyAbsX a => Sys2Proof.Machine.execLdyAbsX a s
  | .ldaAbsX a => Sys2Proof.Machine.execLdaAbsX a s
  | .ldxAbsY a => Sys2Proof.Machine.execLdxAbsY a s
  | .bbs3 z r => Sys2Proof.Machine.execBbs3 z r s
  | .cpyImm v => Sys2Proof.Machine.execCpyImm v s
  | .cmpZpXI z => Sys2Proof.Machine.execCmpZpXI z s
  | .cpyZp z => Sys2Proof.Machine.execCpyZp z s
  | .cmpZp z => Sys2Proof.Machine.execCmpZp z s
  | .decZp z => Sys2Proof.Machine.execDecZp z s
  | .smb4 z => Sys2Proof.Machine.execSmb4 z s
  | .iny => Sys2Proof.Machine.execIny s
  | .cmpImm v => Sys2Proof.Machine.execCmpImm v s
  | .dex => Sys2Proof.Machine.execDex s
  | .cpyAbs a => Sys2Proof.Machine.execCpyAbs a s
  | .cmpAbs a => Sys2Proof.Machine.execCmpAbs a s
  | .decAbs a => Sys2Proof.Machine.execDecAbs a s
  | .bbs4 z r => Sys2Proof.Machine.execBbs4 z r s
  | .bneRel r => Sys2Proof.Machine.execBneRel r s
  | .cmpZpIY z => Sys2Proof.Machine.execCmpZpIY z s
  | .cmpZpI z => Sys2Proof.Machine.execCmpZpI z s
  | .cmpZpX z => Sys2Proof.Machine.execCmpZpX z s
  | .decZpX z => Sys2Proof.Machine.execDecZpX z s
  | .smb5 z => Sys2Proof.Machine.execSmb5 z s
  | .cld => Sys2Proof.Machine.execCld s
  | .cmpAbsY a => Sys2Proof.Machine.execCmpAbsY a s
  | .phx => Sys2Proof.Machine.execPhx s
  | .cmpAbsX a => Sys2Proof.Machine.execCmpAbsX a s
  | .decAbsX a => Sys2Proof.Machine.execDecAbsX a s
  | .bbs5 z r => Sys2Proof.Machine.execBbs5 z r s
  | .cpxImm v => Sys2Proof.Machine.execCpxImm v s
  | .sbcZpXI z => Sys2Proof.Machine.execSbcZpXI z s
  | .cpxZp z => Sys2Proof.Machine.execCpxZp z s
  | .sbcZp z => Sys2Proof.Machine.execSbcZp z s
  | .incZp z => Sys2Proof.Machine.execIncZp z s
  | .smb6 z => Sys2Proof.Machine.execSmb6 z s
  | .inx => Sys2Proof.Machine.execInx s
  | .sbcImm v => Sys2Proof.Machine.execSbcImm v s
  | .nop => Sys2Proof.Machine.execNop s
  | .cpxAbs a => Sys2Proof.Machine.execCpxAbs a s
  | .sbcAbs a => Sys2Proof.Machine.execSbcAbs a s
  | .incAbs a => Sys2Proof.Machine.execIncAbs a s
  | .bbs6 z r => Sys2Proof.Machine.execBbs6 z r s
  | .beqRel r => Sys2Proof.Machine.execBeqRel r s
  | .sbcZpIY z => Sys2Proof.Machine.execSbcZpIY z s
  | .sbcZpI z => Sys2Proof.Machine.execSbcZpI z s
  | .sbcZpX z => Sys2Proof.Machine.execSbcZpX z s
  | .incZpX z => Sys2Proof.Machine.execIncZpX z s
  | .smb7 z => Sys2Proof.Machine.execSmb7 z s
  | .sed => Sys2Proof.Machine.execSed s
  | .sbcAbsY a => Sys2Proof.Machine.execSbcAbsY a s
  | .plx => Sys2Proof.Machine.execPlx s
  | .sbcAbsX a => Sys2Proof.Machine.execSbcAbsX a s
  | .incAbsX a => Sys2Proof.Machine.execIncAbsX a s
  | .bbs7 z r => Sys2Proof.Machine.execBbs7 z r s
  | .bplRel16 r => Sys2Proof.Machine.execBplRel16 r s
  | .bmiRel16 r => Sys2Proof.Machine.execBmiRel16 r s
  | .bvcRel16 r => Sys2Proof.Machine.execBvcRel16 r s
  | .bvsRel16 r => Sys2Proof.Machine.execBvsRel16 r s
  | .bccRel16 r => Sys2Proof.Machine.execBccRel16 r s
  | .bcsRel16 r => Sys2Proof.Machine.execBcsRel16 r s
  | .bneRel16 r => Sys2Proof.Machine.execBneRel16 r s
  | .beqRel16 r => Sys2Proof.Machine.execBeqRel16 r s
  | .braRel16 r => Sys2Proof.Machine.execBraRel16 r s
  | .asr => Sys2Proof.Machine.execAsr s
  | .osx => Sys2Proof.Machine.execOsx s
  | .ind => Sys2Proof.Machine.execInd s
  | .siz => Sys2Proof.Machine.execSiz s
  | .oax => Sys2Proof.Machine.execOax s
  | .oay => Sys2Proof.Machine.execOay s
  | .osz => Sys2Proof.Machine.execOsz s
  | .ois => Sys2Proof.Machine.execOis s
  | .isz => Sys2Proof.Machine.execIsz s
  | .dup => Sys2Proof.Machine.execDup s
  | .swp => Sys2Proof.Machine.execSwp s
  | .rot => Sys2Proof.Machine.execRot s
  | .nxt => Sys2Proof.Machine.execNxt s
  | .ent => Sys2Proof.Machine.execEnt s
  | .phi => Sys2Proof.Machine.execPhi s
  | .pli => Sys2Proof.Machine.execPli s
  | .ini => Sys2Proof.Machine.execIni s

end Sys2Proof.Machine
end

