-- ==== Sys2Proof/Machine/Ipp.lean ====
section
/-! DEFINITION. The ipp-mode data operations that IPP_OPS may assign to slots (47_forth_vm.md R397, 40_addressing.md
R137, R138). They have no row in the opcode table. -/

namespace Sys2Proof.Machine

/-- An operation of IPP_OPS: the operation's own rule with its operand from the ipp resolver (47_forth_vm.md R397).
osx has no effect; RMBn and SMBn stay byte-wide and outside the exchange (logs 11, 12). -/
def execIpp (o : IppOp) (s : State) : Result :=
  match o with
  | .lda => loadReg .a (.mem .ipp) s
  | .ldx => loadX (.mem .ipp) s
  | .ldy => loadReg .y (.mem .ipp) s
  | .sta => storeReg .a .ipp s
  | .stx => storeX .ipp s
  | .sty => storeReg .y .ipp s
  | .stz => storeZero .ipp s
  | .adc => addWithCarry (.mem .ipp) s
  | .sbc => subWithCarry (.mem .ipp) s
  | .and => logic (· &&& ·) (.mem .ipp) s
  | .ora => logic (· ||| ·) (.mem .ipp) s
  | .eor => logic (· ^^^ ·) (.mem .ipp) s
  | .cmp => compareReg .a (.mem .ipp) s
  | .cpx => compareX (.mem .ipp) s
  | .cpy => compareReg .y (.mem .ipp) s
  | .bit => bitMem .ipp s
  | .asl => rmwMem aslFn .ipp s
  | .lsr => rmwMem lsrFn .ipp s
  | .rol => rmwMem rolFn .ipp s
  | .ror => rmwMem rorFn .ipp s
  | .inc => rmwMem incFn .ipp s
  | .dec => rmwMem decFn .ipp s
  | .tsb => testModify (fun v a => v ||| a) .ipp s
  | .trb => testModify (fun v a => v &&& ~~~a) .ipp s
  | .rmb n => changeBit n.val false .ipp s
  | .smb n => changeBit n.val true .ipp s

end Sys2Proof.Machine
end

