-- ==== Sys2Proof/Machine/Step.lean ====
section
/-! DEFINITION. One step of the core (46_control.md R381, 60_exceptions.md R410). -/

namespace Sys2Proof.Machine

/-- What a step does with what it decoded, `n` bytes long, from the opcode `op`. -/
def runDecoded (d : Decoded) (n : Nat) (op : Byte) (s : State) : Result :=
  match d with
  | .instr i => andThen (finish i op) (exec i (s.fetched n))
  | .ipp o => andThen (finishInstr op) (execIpp o (s.fetched n))
  | .unimplemented => .next (unimplementedEntry op (s.fetched n))

/-- One step: an interrupt entry, or the fetch and execution of one instruction (46_control.md R381). -/
def step (s : State) : Host.Outcome State Fault Refusal :=
  match acceptInterrupt s with
  | some t => .next t
  | none =>
    match decodeAt s with
    | .error e => .refused (refusalOf e)
    | .ok (d, rest) => runDecoded d (3 - rest.length) s.opcode s

/-- The state whose very next step fetches the table word: its bytes at PC, and no interrupt request that the step would
take in its place (log 7). -/
def State.withFetchWord (s : State) (nbits w : Nat) : State :=
  { s with mem := storeBytes s.pc (tableBytes nbits w) s.mem, nmiPending := false, irq := false }

end Sys2Proof.Machine
end

