-- ==== Sys2Proof/Machine/HostPort.lean ====
section
/-! DEFINITION. The core's interface to its driver: the reset input, the interrupt inputs, the raw accessors, and the
marks that a stopped run carries (00_scope.md R7; 70_reset_and_hazards.md R450, R472; 60_exceptions.md R411, R412;
10_state.md R50). -/

namespace Sys2Proof.Machine

/-! ## Inputs -/

/-- The host raises NMI: the latch is set, a second request merges with the first (60_exceptions.md R411). -/
def raiseNmi (s : State) : State := { s with nmiPending := true }

/-- The host drives the IRQ level (60_exceptions.md R412). -/
def setIrq (level : Bool) (s : State) : State := { s with irq := level }

/-! ## Raw accessors

Called between steps, each changes one element and nothing else (70_reset_and_hazards.md R472), and together they reach
every element (00_scope.md R7, D47). R472 lists slots, stack pointers, PC, IP, WP, P and memory; that the host also
writes PrefixState, NMI_PENDING and the counters is DEDUCED from R7 and D47 (log 23). A field that holds one element is
read as it stands. -/

/-- Write a register slot: 0 TOS, 1 NOS, 2 BOS. -/
def hostSetSlot (r : RegName) (slot : Fin 3) (v : Word) (s : State) : State :=
  match slot with
  | 0 => s.setStack r { s.stack r with tos := v }
  | 1 => s.setStack r { s.stack r with nos := v }
  | 2 => s.setStack r { s.stack r with bos := v }

/-- Read a register slot. -/
def hostSlot (r : RegName) (slot : Fin 3) (s : State) : Word :=
  match slot with
  | 0 => (s.stack r).tos
  | 1 => (s.stack r).nos
  | 2 => (s.stack r).bos

/-- Write SP[1] (`kernel`) or SP[0]. -/
def hostSetSp (kernel : Bool) (v : Word) (s : State) : State :=
  if kernel then { s with spKernel := v } else { s with spUser := v }

/-- Write PC. -/
def hostSetPc (v : Word) (s : State) : State := { s with pc := v }

/-- Write IP. -/
def hostSetIp (v : Word) (s : State) : State := { s with ip := v }

/-- Write WP. -/
def hostSetWp (v : Word) (s : State) : State := { s with wp := v }

/-- Write P, all eight bits, M included. -/
def hostSetP (v : Byte) (s : State) : State := { s with p := v }

/-- Write PrefixState (DEDUCED, log 23). -/
def hostSetPs (v : PrefixState) (s : State) : State := { s with ps := v }

/-- Write NMI_PENDING (DEDUCED, log 23). -/
def hostSetNmiPending (v : Bool) (s : State) : State := { s with nmiPending := v }

/-- Write the counters (DEDUCED, log 23); one is written by giving the others their values in `s`. -/
def hostSetCounters (v : Counters) (s : State) : State := { s with counters := v }

/-- Read a memory byte. -/
def hostByte (a : Word) (s : State) : Byte := s.readByte a

/-- Write a memory byte. -/
def hostSetByte (a : Word) (v : Byte) (s : State) : State := { s with mem := s.mem.write a.toNat v }

/-- Load: a raw copy of a byte range into memory from an offset on, modulo 2^16 (log 22). -/
def hostLoad (a : Word) (bytes : List Byte) (s : State) : State := { s with mem := storeBytes a bytes s.mem }

/-- Save: a raw copy of a byte range out of memory, modulo 2^16 (log 22). -/
def hostSave (a : Word) : Nat → State → List Byte
  | 0, _ => []
  | n + 1, s => s.readByte a :: hostSave (a + 1#16) n s

/-! ## Marks -/

/-- The mark of a run (10_state.md R50). -/
inductive Mark where
  | running
  | faulted (r : Fault)
  | refused (r : Refusal)
deriving DecidableEq, Repr

/-- The hardware state with the model's mark (10_state.md R50, 70_reset_and_hazards.md R474). -/
structure Marked where
  hw : State
  mark : Mark
deriving DecidableEq, Repr

/-- A step of a marked state: a mark is never cleared and lets no later step run; a step that ends in a fault or a
refusal leaves the hardware state and sets the mark (10_state.md R50, 46_control.md R382). -/
def markedStep (m : Marked) : Marked :=
  match m.mark with
  | .running =>
    match step m.hw with
    | .next t => { hw := t, mark := .running }
    | .fault r => { hw := m.hw, mark := .faulted r }
    | .refused r => { hw := m.hw, mark := .refused r }
  | _ => m

/-- Reset of a marked state: the mark is not cleared (70_reset_and_hazards.md R452). -/
def markedReset (m : Marked) : Marked := { m with hw := resetCore m.hw }

end Sys2Proof.Machine
end

