-- ==== Sys2Proof/Safety.lean ====
section
/-! DEFINITION. The terms the statements use: the instructions by form, what an instruction leaves unchanged, exact
results over the integers, and what a sound state is. -/

namespace Sys2Proof.Safety

open Sys2Proof.Machine

/-! ## The instructions by form -/

/-- The data operation and operand of an instruction with an immediate or memory operand (42, 43 and 44). -/
def dataForm : Instr → Option (IppOp × Operand)
  | .oraZpXI z => some (.ora, .mem (.zpXI z))
  | .oraZp z => some (.ora, .mem (.zp z))
  | .oraImm v => some (.ora, .imm v)
  | .oraAbs a => some (.ora, .mem (.abs a))
  | .oraZpIY z => some (.ora, .mem (.zpIY z))
  | .oraZpI z => some (.ora, .mem (.zpI z))
  | .oraZpX z => some (.ora, .mem (.zpX z))
  | .oraAbsY a => some (.ora, .mem (.absY a))
  | .oraAbsX a => some (.ora, .mem (.absX a))
  | .tsbZp z => some (.tsb, .mem (.zp z))
  | .tsbAbs a => some (.tsb, .mem (.abs a))
  | .aslZp z => some (.asl, .mem (.zp z))
  | .aslAbs a => some (.asl, .mem (.abs a))
  | .aslZpX z => some (.asl, .mem (.zpX z))
  | .aslAbsX a => some (.asl, .mem (.absX a))
  | .rmb0 z => some (.rmb 0, .mem (.zp z))
  | .trbZp z => some (.trb, .mem (.zp z))
  | .trbAbs a => some (.trb, .mem (.abs a))
  | .rmb1 z => some (.rmb 1, .mem (.zp z))
  | .incZp z => some (.inc, .mem (.zp z))
  | .incAbs a => some (.inc, .mem (.abs a))
  | .incZpX z => some (.inc, .mem (.zpX z))
  | .incAbsX a => some (.inc, .mem (.absX a))
  | .andZpXI z => some (.and, .mem (.zpXI z))
  | .andZp z => some (.and, .mem (.zp z))
  | .andImm v => some (.and, .imm v)
  | .andAbs a => some (.and, .mem (.abs a))
  | .andZpIY z => some (.and, .mem (.zpIY z))
  | .andZpI z => some (.and, .mem (.zpI z))
  | .andZpX z => some (.and, .mem (.zpX z))
  | .andAbsY a => some (.and, .mem (.absY a))
  | .andAbsX a => some (.and, .mem (.absX a))
  | .bitZp z => some (.bit, .mem (.zp z))
  | .bitAbs a => some (.bit, .mem (.abs a))
  | .bitZpX z => some (.bit, .mem (.zpX z))
  | .bitAbsX a => some (.bit, .mem (.absX a))
  | .bitImm v => some (.bit, .imm v)
  | .rolZp z => some (.rol, .mem (.zp z))
  | .rolAbs a => some (.rol, .mem (.abs a))
  | .rolZpX z => some (.rol, .mem (.zpX z))
  | .rolAbsX a => some (.rol, .mem (.absX a))
  | .rmb2 z => some (.rmb 2, .mem (.zp z))
  | .rmb3 z => some (.rmb 3, .mem (.zp z))
  | .decZp z => some (.dec, .mem (.zp z))
  | .decAbs a => some (.dec, .mem (.abs a))
  | .decZpX z => some (.dec, .mem (.zpX z))
  | .decAbsX a => some (.dec, .mem (.absX a))
  | .eorZpXI z => some (.eor, .mem (.zpXI z))
  | .eorZp z => some (.eor, .mem (.zp z))
  | .eorImm v => some (.eor, .imm v)
  | .eorAbs a => some (.eor, .mem (.abs a))
  | .eorZpIY z => some (.eor, .mem (.zpIY z))
  | .eorZpI z => some (.eor, .mem (.zpI z))
  | .eorZpX z => some (.eor, .mem (.zpX z))
  | .eorAbsY a => some (.eor, .mem (.absY a))
  | .eorAbsX a => some (.eor, .mem (.absX a))
  | .lsrZp z => some (.lsr, .mem (.zp z))
  | .lsrAbs a => some (.lsr, .mem (.abs a))
  | .lsrZpX z => some (.lsr, .mem (.zpX z))
  | .lsrAbsX a => some (.lsr, .mem (.absX a))
  | .rmb4 z => some (.rmb 4, .mem (.zp z))
  | .rmb5 z => some (.rmb 5, .mem (.zp z))
  | .adcZpXI z => some (.adc, .mem (.zpXI z))
  | .adcZp z => some (.adc, .mem (.zp z))
  | .adcImm v => some (.adc, .imm v)
  | .adcAbs a => some (.adc, .mem (.abs a))
  | .adcZpIY z => some (.adc, .mem (.zpIY z))
  | .adcZpI z => some (.adc, .mem (.zpI z))
  | .adcZpX z => some (.adc, .mem (.zpX z))
  | .adcAbsY a => some (.adc, .mem (.absY a))
  | .adcAbsX a => some (.adc, .mem (.absX a))
  | .stzZp z => some (.stz, .mem (.zp z))
  | .stzZpX z => some (.stz, .mem (.zpX z))
  | .stzAbs a => some (.stz, .mem (.abs a))
  | .stzAbsX a => some (.stz, .mem (.absX a))
  | .rorZp z => some (.ror, .mem (.zp z))
  | .rorAbs a => some (.ror, .mem (.abs a))
  | .rorZpX z => some (.ror, .mem (.zpX z))
  | .rorAbsX a => some (.ror, .mem (.absX a))
  | .rmb6 z => some (.rmb 6, .mem (.zp z))
  | .rmb7 z => some (.rmb 7, .mem (.zp z))
  | .staZpXI z => some (.sta, .mem (.zpXI z))
  | .staZp z => some (.sta, .mem (.zp z))
  | .staAbs a => some (.sta, .mem (.abs a))
  | .staZpIY z => some (.sta, .mem (.zpIY z))
  | .staZpI z => some (.sta, .mem (.zpI z))
  | .staZpX z => some (.sta, .mem (.zpX z))
  | .staAbsY a => some (.sta, .mem (.absY a))
  | .staAbsX a => some (.sta, .mem (.absX a))
  | .styZp z => some (.sty, .mem (.zp z))
  | .styAbs a => some (.sty, .mem (.abs a))
  | .styZpX z => some (.sty, .mem (.zpX z))
  | .stxZp z => some (.stx, .mem (.zp z))
  | .stxAbs a => some (.stx, .mem (.abs a))
  | .stxZpY z => some (.stx, .mem (.zpY z))
  | .smb0 z => some (.smb 0, .mem (.zp z))
  | .smb1 z => some (.smb 1, .mem (.zp z))
  | .ldyImm v => some (.ldy, .imm v)
  | .ldyZp z => some (.ldy, .mem (.zp z))
  | .ldyAbs a => some (.ldy, .mem (.abs a))
  | .ldyZpX z => some (.ldy, .mem (.zpX z))
  | .ldyAbsX a => some (.ldy, .mem (.absX a))
  | .ldaZpXI z => some (.lda, .mem (.zpXI z))
  | .ldaZp z => some (.lda, .mem (.zp z))
  | .ldaImm v => some (.lda, .imm v)
  | .ldaAbs a => some (.lda, .mem (.abs a))
  | .ldaZpIY z => some (.lda, .mem (.zpIY z))
  | .ldaZpI z => some (.lda, .mem (.zpI z))
  | .ldaZpX z => some (.lda, .mem (.zpX z))
  | .ldaAbsY a => some (.lda, .mem (.absY a))
  | .ldaAbsX a => some (.lda, .mem (.absX a))
  | .ldxImm v => some (.ldx, .imm v)
  | .ldxZp z => some (.ldx, .mem (.zp z))
  | .ldxAbs a => some (.ldx, .mem (.abs a))
  | .ldxZpY z => some (.ldx, .mem (.zpY z))
  | .ldxAbsY a => some (.ldx, .mem (.absY a))
  | .smb2 z => some (.smb 2, .mem (.zp z))
  | .smb3 z => some (.smb 3, .mem (.zp z))
  | .cpyImm v => some (.cpy, .imm v)
  | .cpyZp z => some (.cpy, .mem (.zp z))
  | .cpyAbs a => some (.cpy, .mem (.abs a))
  | .cmpZpXI z => some (.cmp, .mem (.zpXI z))
  | .cmpZp z => some (.cmp, .mem (.zp z))
  | .cmpImm v => some (.cmp, .imm v)
  | .cmpAbs a => some (.cmp, .mem (.abs a))
  | .cmpZpIY z => some (.cmp, .mem (.zpIY z))
  | .cmpZpI z => some (.cmp, .mem (.zpI z))
  | .cmpZpX z => some (.cmp, .mem (.zpX z))
  | .cmpAbsY a => some (.cmp, .mem (.absY a))
  | .cmpAbsX a => some (.cmp, .mem (.absX a))
  | .smb4 z => some (.smb 4, .mem (.zp z))
  | .smb5 z => some (.smb 5, .mem (.zp z))
  | .cpxImm v => some (.cpx, .imm v)
  | .cpxZp z => some (.cpx, .mem (.zp z))
  | .cpxAbs a => some (.cpx, .mem (.abs a))
  | .sbcZpXI z => some (.sbc, .mem (.zpXI z))
  | .sbcZp z => some (.sbc, .mem (.zp z))
  | .sbcImm v => some (.sbc, .imm v)
  | .sbcAbs a => some (.sbc, .mem (.abs a))
  | .sbcZpIY z => some (.sbc, .mem (.zpIY z))
  | .sbcZpI z => some (.sbc, .mem (.zpI z))
  | .sbcZpX z => some (.sbc, .mem (.zpX z))
  | .sbcAbsY a => some (.sbc, .mem (.absY a))
  | .sbcAbsX a => some (.sbc, .mem (.absX a))
  | .smb6 z => some (.smb 6, .mem (.zp z))
  | .smb7 z => some (.smb 7, .mem (.zp z))
  | _ => none

/-- The operation and register of a shift, rotate, increment or decrement of a register (44_rmw_bit.md R260 to R271). -/
def registerForm : Instr → Option (IppOp × RegName)
  | .aslAcc => some (.asl, .a)
  | .incAcc => some (.inc, .a)
  | .rolAcc => some (.rol, .a)
  | .decAcc => some (.dec, .a)
  | .lsrAcc => some (.lsr, .a)
  | .rorAcc => some (.ror, .a)
  | .dey => some (.dec, .y)
  | .iny => some (.inc, .y)
  | .dex => some (.dec, .x)
  | .inx => some (.inc, .x)
  | _ => none

/-- The condition (a flag and the value it must have; none for BRA) and offset of a rel branch (46_control.md R342 to
R350). -/
def relForm : Instr → Option (Option (Flag × Bool) × Byte)
  | .bplRel r => some (some (.n, false), r)
  | .bmiRel r => some (some (.n, true), r)
  | .bvcRel r => some (some (.v, false), r)
  | .bvsRel r => some (some (.v, true), r)
  | .braRel r => some (none, r)
  | .bccRel r => some (some (.c, false), r)
  | .bcsRel r => some (some (.c, true), r)
  | .bneRel r => some (some (.z, false), r)
  | .beqRel r => some (some (.z, true), r)
  | _ => none

/-- The condition and offset of a rel16 branch (46_control.md R341). -/
def rel16Form : Instr → Option (Option (Flag × Bool) × Word)
  | .bplRel16 r => some (some (.n, false), r)
  | .bmiRel16 r => some (some (.n, true), r)
  | .bvcRel16 r => some (some (.v, false), r)
  | .bvsRel16 r => some (some (.v, true), r)
  | .braRel16 r => some (none, r)
  | .bccRel16 r => some (some (.c, false), r)
  | .bcsRel16 r => some (some (.c, true), r)
  | .bneRel16 r => some (some (.z, false), r)
  | .beqRel16 r => some (some (.z, true), r)
  | _ => none

/-- The bit number, the bit value that branches, the operand and the offset of BBRn and BBSn (44_rmw_bit.md R293 to
R308). -/
def bitBranchForm : Instr → Option (Fin 8 × Bool × Byte × Byte)
  | .bbr0 z r => some (0, false, z, r)
  | .bbr1 z r => some (1, false, z, r)
  | .bbr2 z r => some (2, false, z, r)
  | .bbr3 z r => some (3, false, z, r)
  | .bbr4 z r => some (4, false, z, r)
  | .bbr5 z r => some (5, false, z, r)
  | .bbr6 z r => some (6, false, z, r)
  | .bbr7 z r => some (7, false, z, r)
  | .bbs0 z r => some (0, true, z, r)
  | .bbs1 z r => some (1, true, z, r)
  | .bbs2 z r => some (2, true, z, r)
  | .bbs3 z r => some (3, true, z, r)
  | .bbs4 z r => some (4, true, z, r)
  | .bbs5 z r => some (5, true, z, r)
  | .bbs6 z r => some (6, true, z, r)
  | .bbs7 z r => some (7, true, z, r)
  | _ => none

/-- The source and the destination of a transfer between A, X and Y (42_load_store_transfer.md R179 to R182). -/
def transferForm : Instr → Option (RegName × RegName)
  | .tax => some (.a, .x)
  | .tay => some (.a, .y)
  | .txa => some (.x, .a)
  | .tya => some (.y, .a)
  | _ => none

/-- The register of PHA, PHX and PHY (45_stack.md R315 to R317). -/
def pushForm : Instr → Option RegName
  | .pha => some .a
  | .phx => some .x
  | .phy => some .y
  | _ => none

/-- The register of PLA, PLX and PLY (45_stack.md R320 to R322). -/
def pullForm : Instr → Option RegName
  | .pla => some .a
  | .plx => some .x
  | .ply => some .y
  | _ => none

/-- The flag and the value of a flag instruction (46_control.md R373 to R379). -/
def flagForm : Instr → Option (Flag × Bool)
  | .clc => some (.c, false)
  | .sec => some (.c, true)
  | .cli => some (.i, false)
  | .sei => some (.i, true)
  | .clv => some (.v, false)
  | .cld => some (.d, false)
  | .sed => some (.d, true)
  | _ => none

/-- The flags a prefix sets, each `true` (41_prefix.md R161 to R168). -/
def prefixFlags (cfg : Config) : Instr → Option PrefixState
  | .osx => some { PrefixState.clear with osx := true }
  | .ind => some { PrefixState.clear with ind := true }
  | .siz => some { PrefixState.clear with siz := true }
  | .oax => some { PrefixState.clear with oax := true }
  | .oay => some { PrefixState.clear with oay := true }
  | .osz => some { PrefixState.clear with osx := true, siz := true }
  | .ois => some { PrefixState.clear with osx := true, ind := true, siz := (cfg.oisFlags == .osxIndSiz) }
  | .isz => some { PrefixState.clear with ind := true, siz := true }
  | _ => none

/-- The stack move of DUP, SWP and ROT as the slots (TOS, NOS, BOS) it leaves (45_stack.md R325 to R327). -/
def movedSlots : Instr → RegStack → Option RegStack
  | .dup, r => some ⟨r.tos, r.tos, r.nos⟩
  | .swp, r => some ⟨r.nos, r.tos, r.bos⟩
  | .rot, r => some ⟨r.bos, r.tos, r.nos⟩
  | _, _ => none

/-- The instructions without a data form that honour oax/oay (41_prefix.md R160). -/
def exchangesRegisters : Instr → Bool
  | .txs => true
  | .tsx => true
  | .asr => true
  | .dup => true
  | .swp => true
  | .rot => true
  | .jmpAbsXI _ => true
  | i => (registerForm i).isSome || (transferForm i).isSome || (pushForm i).isSome || (pullForm i).isSome

/-- The instruction honours oax/oay (41_prefix.md R160). -/
def honoursExchange (i : Instr) : Bool :=
  match dataForm i with
  | some (.rmb _, _) => false
  | some (.smb _, _) => false
  | some _ => true
  | none => exchangesRegisters i

/-! ## What stays -/

/-- IP, WP, the interrupt inputs and the configuration are unchanged. -/
def SameBackground (s t : State) : Prop :=
  t.ip = s.ip ∧ t.wp = s.wp ∧ t.nmiPending = s.nmiPending ∧ t.irq = s.irq ∧ t.cfg = s.cfg

/-- PC, IP, WP, the interrupt inputs and the configuration are unchanged. -/
def SameControl (s t : State) : Prop := SameBackground s t ∧ t.pc = s.pc

/-- Every slot of A, X and Y is unchanged. -/
def SameRegisters (s t : State) : Prop := ∀ q, t.stack q = s.stack q

/-- Every slot but slot 0 of `r` is unchanged. -/
def SameRegistersBut (r : RegName) (s t : State) : Prop :=
  (∀ q, q ≠ r → t.stack q = s.stack q) ∧ (t.stack r).nos = (s.stack r).nos ∧ (t.stack r).bos = (s.stack r).bos

/-- Both stack pointers are unchanged. -/
def SameStackPointers (s t : State) : Prop := t.spUser = s.spUser ∧ t.spKernel = s.spKernel

/-- The stack pointer that is not active in `s` is unchanged. -/
def SameInactivePointer (s t : State) : Prop :=
  (getFlag .m s.p = true → t.spUser = s.spUser) ∧ (getFlag .m s.p = false → t.spKernel = s.spKernel)

/-- Every byte of memory is unchanged. -/
def SameMemory (s t : State) : Prop := ∀ a, t.readByte a = s.readByte a

/-- Every byte of memory outside `l` is unchanged. -/
def SameMemoryBut (l : List Word) (s t : State) : Prop := ∀ a, a ∉ l → t.readByte a = s.readByte a

/-- Every field of P outside `l` is unchanged. -/
def SameFlagsBut (l : List Flag) (s t : State) : Prop := ∀ f, f ∉ l → getFlag f t.p = getFlag f s.p

/-- The counters rise by `r` data reads and `w` data writes, and by nothing else. -/
def Counted (r w : Nat) (s t : State) : Prop :=
  t.counters =
    { s.counters with dataReads := s.counters.dataReads + r, dataWrites := s.counters.dataWrites + w }

/-- The data reads of an operand read at width W: its pointers and its bytes; none for an immediate
(10_state.md R48). -/
def operandReads (s : State) (o : Operand) (W : Width) : Nat :=
  match o with
  | .imm _ => 0
  | .mem m => s.pointerReads m + W.bytes

/-- The addresses of the bytes of a datum of width W at an effective address. -/
def bytesAt (ea : EA) (W : Width) : List Word :=
  match W with
  | .byte => [ea.addr]
  | .word => [ea.addr, ea.nextAddr]

/-! ## What is written -/

/-- Slot 0 of `r` holds the value written at width W: all of it, or its low byte with the high byte that
BYTE_WRITE_HIGH gives (00_scope.md R12). -/
def SlotHolds (r : RegName) (W : Width) (v : Word) (s t : State) : Prop :=
  match W with
  | .word => t.slot0 r = v
  | .byte =>
    loByte (t.slot0 r) = loByte v ∧
    hiByte (t.slot0 r) = (match s.cfg.byteWriteHigh with
      | .zero => 0#8
      | .preserve => hiByte (s.slot0 r))

/-- The active stack pointer holds the value written at width W (00_scope.md R12). -/
def PointerHolds (W : Width) (v : Word) (s t : State) : Prop :=
  match W with
  | .word => t.sp = v
  | .byte => loByte t.sp = loByte v ∧ hiByte t.sp = hiByte s.sp

/-- N and Z are those of the value at width W, and every other flag outside `l` is unchanged (43_alu.md R220). -/
def FlagsOfValue (W : Width) (v : Word) (l : List Flag) (s t : State) : Prop :=
  getFlag .n t.p = msbW W v ∧ getFlag .z t.p = decide (maskW W v = 0#16) ∧ SameFlagsBut (.n :: .z :: l) s t

/-! ## Exact results -/

/-- The signed value of the low W bits. -/
def signedW (W : Width) (v : Word) : Int :=
  match W with
  | .byte => (loByte v).toInt
  | .word => v.toInt

/-- The integer fits a signed value of W bits. -/
def fitsSigned (W : Width) (n : Int) : Prop := -(2 ^ (W.bits - 1) : Int) ≤ n ∧ n < (2 ^ (W.bits - 1) : Int)

/-- What a shift, rotate, increment or decrement makes of a value v < 2^W with carry c (44_rmw_bit.md R261, R266,
R267). -/
def shiftedValue (op : IppOp) (W : Width) (v : Nat) (c : Bool) : Nat :=
  match op with
  | .asl => 2 * v % 2 ^ W.bits
  | .lsr => v / 2
  | .rol => (2 * v + c.toNat) % 2 ^ W.bits
  | .ror => v / 2 + c.toNat * 2 ^ (W.bits - 1)
  | .inc => (v + 1) % 2 ^ W.bits
  | .dec => (v + (2 ^ W.bits - 1)) % 2 ^ W.bits
  | _ => v

/-- The carry it leaves. -/
def shiftedCarry (op : IppOp) (W : Width) (v : Nat) (c : Bool) : Bool :=
  match op with
  | .asl => decide (2 ^ (W.bits - 1) ≤ v)
  | .rol => decide (2 ^ (W.bits - 1) ≤ v)
  | .lsr => decide (v % 2 = 1)
  | .ror => decide (v % 2 = 1)
  | _ => c

/-- The six operations of `shiftedValue`. -/
def isShift (op : IppOp) : Bool :=
  op == .asl || op == .lsr || op == .rol || op == .ror || op == .inc || op == .dec

/-- The two decimal digits of a byte are below 10. -/
def isBcd (v : Byte) : Prop := v.toNat / 16 < 10 ∧ v.toNat % 16 < 10

/-- The number that two decimal digits stand for. -/
def bcdValue (v : Byte) : Nat := v.toNat / 16 * 10 + v.toNat % 16

/-- Slot 0 of `r` holds a decimal result's byte, and C, V, N and Z are its (43_alu.md R224, R225). -/
def DecimalIn (r : RegName) (d : DecSum) (s t : State) : Prop :=
  SlotHolds r .byte (zext d.r) s t ∧ getFlag .c t.p = d.c ∧ getFlag .v t.p = d.v ∧ getFlag .n t.p = d.n ∧
  getFlag .z t.p = d.z ∧ SameFlagsBut [.n, .v, .z, .c] s t

/-- Slot 0 of `r` holds a + m + C at width W, with the flags ADC gives it: the decimal sum with D set at byte width,
else the sum modulo 2^W with its carry and signed overflow (43_alu.md R224). -/
def SumIn (r : RegName) (W : Width) (a m : Word) (s t : State) : Prop :=
  let c := getFlag .c s.p
  if getFlag .d s.p = true ∧ W = .byte then DecimalIn r (addDec s.cfg.decNzSource (loByte a) (loByte m) c) s t
  else
    let v := BitVec.ofNat 16 ((a.toNat + m.toNat + c.toNat) % 2 ^ W.bits)
    SlotHolds r W v s t ∧ FlagsOfValue W v [.c, .v] s t ∧
    getFlag .c t.p = decide (2 ^ W.bits ≤ a.toNat + m.toNat + c.toNat) ∧
    (getFlag .v t.p = true ↔ ¬ fitsSigned W (signedW W a + signedW W m + (c.toNat : Int)))

/-- Slot 0 of `r` holds a - m - 1 + C at width W, with the flags SBC gives it: the decimal difference with D set at byte
width, else the difference modulo 2^W with its not-borrow and signed overflow (43_alu.md R225). -/
def DifferenceIn (r : RegName) (W : Width) (a m : Word) (s t : State) : Prop :=
  let c := getFlag .c s.p
  if getFlag .d s.p = true ∧ W = .byte then DecimalIn r (subDec s.cfg.decNzSource (loByte a) (loByte m) c) s t
  else
    let v := BitVec.ofInt 16 (((a.toNat : Int) - m.toNat - 1 + c.toNat) % 2 ^ W.bits)
    SlotHolds r W v s t ∧ FlagsOfValue W v [.c, .v] s t ∧
    getFlag .c t.p = decide (m.toNat + 1 ≤ a.toNat + c.toNat) ∧
    (getFlag .v t.p = true ↔ ¬ fitsSigned W (signedW W a - signedW W m - 1 + (c.toNat : Int)))

/-- The flags after the register value `a` is compared with `m` at width W: C is a >= m, Z equality, N the sign of the
difference, V the signed overflow at word width only (43_alu.md R229). -/
def FlagsOfCompare (W : Width) (a m : Word) (s t : State) : Prop :=
  getFlag .c t.p = decide (m.toNat ≤ (maskW W a).toNat) ∧ getFlag .z t.p = decide (maskW W a = m) ∧
  getFlag .n t.p = msbW W (a - m) ∧ (W = .byte → getFlag .v t.p = getFlag .v s.p) ∧
  (W = .word → (getFlag .v t.p = true ↔ ¬ fitsSigned W (signedW W a - signedW W m))) ∧
  SameFlagsBut [.n, .v, .z, .c] s t

/-- The flags BIT takes from A and a memory operand m of width W (43_alu.md R233). -/
def FlagsOfBitTest (W : Width) (a m : Word) (s t : State) : Prop :=
  getFlag .z t.p = decide (a &&& m = 0#16) ∧ getFlag .n t.p = m.getLsbD (W.bits - 1) ∧
  getFlag .v t.p = m.getLsbD (W.bits - 2) ∧ SameFlagsBut [.n, .v, .z] s t

/-! ## The accesses of an instruction -/

/-- The data bytes a data operation reads: its pointers, and its operand unless it only stores. -/
def operationReads (op : IppOp) (o : Operand) (s : State) : Nat :=
  match o with
  | .imm _ => 0
  | .mem m =>
    s.pointerReads m +
      match op with
      | .sta => 0
      | .stx => 0
      | .sty => 0
      | .stz => 0
      | .rmb _ => 1
      | .smb _ => 1
      | _ => s.width.bytes

/-- The bytes a data operation writes. -/
def operationWrites (op : IppOp) (s : State) : Nat :=
  match op with
  | .rmb _ => 1
  | .smb _ => 1
  | _ =>
    if isShift op || op == .sta || op == .stx || op == .sty || op == .stz || op == .tsb || op == .trb then
      s.width.bytes
    else 0

/-- The data bytes that an instruction without a data form reads. -/
def otherReads (i : Instr) (s : State) : Nat :=
  match i with
  | .pla => s.width.bytes
  | .plx => s.width.bytes
  | .ply => s.width.bytes
  | .plp => 1
  | .rti => 3
  | .rts => 2
  | .brk => 2
  | .jmpAbs _ => if s.ps.ind then 2 else 0
  | .jsr _ => if s.ps.ind then 2 else 0
  | .jmpAbsI a => s.pointerReads (.absI a)
  | .jmpAbsXI a => s.pointerReads (.absXI a)
  | .nxt => 4
  | .ent => 4
  | .pli => 2
  | i =>
    match bitBranchForm i with
    | some (_, _, z, _) => s.pointerReads (.zp z) + 1
    | none => 0

/-- The bytes that an instruction without a data form writes. -/
def otherWrites (i : Instr) (s : State) : Nat :=
  match i with
  | .pha => s.width.bytes
  | .phx => s.width.bytes
  | .phy => s.width.bytes
  | .php => 1
  | .brk => 3
  | .jsr _ => 2
  | .ent => 2
  | .phi => 2
  | _ => 0

/-- The data bytes that an instruction reads when it completes in `s`, its pointers among them (10_state.md R48). -/
def dataReads (i : Instr) (s : State) : Nat :=
  match dataForm i with
  | some (op, o) => operationReads op o s
  | none => otherReads i s

/-- The bytes that an instruction writes when it completes in `s` (10_state.md R48). -/
def dataWrites (i : Instr) (s : State) : Nat :=
  match dataForm i with
  | some (op, _) => operationWrites op s
  | none => otherWrites i s

/-! ## Sound states -/

/-- Memory is in canonical form, the configuration is admitted, lscx is clear, and P.B is set: what holds between
steps (10_state.md R36, R43). -/
def Sound (s : State) : Prop :=
  s.mem.wf = true ∧ s.cfg.wf = true ∧ s.ps.lscx = false ∧ getFlag .b s.p = true

/-- Slots 1 and 2 of the three register stacks. -/
structure LowerSlots where
  aNos : Word
  aBos : Word
  xNos : Word
  xBos : Word
  yNos : Word
  yBos : Word
deriving DecidableEq, Repr

/-- The state with slots 1 and 2 of A, X and Y replaced. -/
def withLower (l : LowerSlots) (s : State) : State :=
  { s with
    a := { s.a with nos := l.aNos, bos := l.aBos }
    x := { s.x with nos := l.xNos, bos := l.xBos }
    y := { s.y with nos := l.yNos, bos := l.yBos } }

end Sys2Proof.Safety
end

