-- ==== Sys2Proof/Certificates/Slice0/Obligations.lean ====
section
/-! DEFINITION. The statements about the core, for the provers. Each says in its docstring which rules of spec/ it rests
on. -/

open Sys2Proof Sys2Proof.Machine Sys2Proof.Safety

/-! ## Memory and flags -/

/-- 20_memory.md section 1: a byte write stores the byte, leaves every other byte, and counts one data write. That it
keeps memory in the model's canonical form is the model's own representation (log 1). -/
def Obligations.ByteWriteStoresTheByte : Prop :=
  ∀ (s : State) (a : Word) (v : Byte), s.mem.wf = true →
    (s.writeByte a v).readByte a = v ∧ SameMemoryBut [a] s (s.writeByte a v) ∧
    Counted 0 1 s (s.writeByte a v) ∧ (s.writeByte a v).mem.wf = true ∧
    s.writeByte a v = { s with mem := (s.writeByte a v).mem, counters := (s.writeByte a v).counters }

/-- 20_memory.md R64 to R69: a word is stored little-endian in two bytes, the second found by the wrap class. -/
def Obligations.WordWriteIsLittleEndian : Prop :=
  ∀ (s : State) (ea : EA) (v : Word), s.mem.wf = true →
    let t := s.writeMem ea .word v
    t.readByte ea.addr = loByte v ∧ t.readByte ea.nextAddr = hiByte v ∧ t.readMem ea .word = v ∧
    SameMemoryBut [ea.addr, ea.nextAddr] s t ∧ Counted 0 2 s t ∧
    (ea.wrap = .full → ea.nextAddr.toNat = (ea.addr.toNat + 1) % 65536) ∧
    (ea.wrap = .page → ea.nextAddr.toNat = ea.addr.toNat / 256 * 256 + (ea.addr.toNat + 1) % 256)

/-- 43_alu.md R220: FlagsNZ sets Z from the low W bits being 0 and N from bit W - 1, and no other flag. -/
def Obligations.FlagsNzTakesSignAndZero : Prop :=
  ∀ (W : Width) (v : Word) (p : Byte),
    getFlag .z (flagsNZ W v p) = decide (v.toNat % 2 ^ W.bits = 0) ∧
    getFlag .n (flagsNZ W v p) = decide (v.toNat / 2 ^ (W.bits - 1) % 2 = 1) ∧
    ∀ f, f ≠ .n → f ≠ .z → getFlag f (flagsNZ W v p) = getFlag f p

/-- 43_alu.md R221: the binary adder and subtractor against exact integers: result modulo 2^W, carry (not-borrow), and
signed overflow. -/
def Obligations.BinaryAdderIsExact : Prop :=
  ∀ (W : Width) (a m : Word) (c : Bool), a.toNat < 2 ^ W.bits → m.toNat < 2 ^ W.bits →
    (addBin W a m c).r.toNat = (a.toNat + m.toNat + c.toNat) % 2 ^ W.bits ∧
    (addBin W a m c).c = decide (2 ^ W.bits ≤ a.toNat + m.toNat + c.toNat) ∧
    ((addBin W a m c).v = true ↔ ¬ fitsSigned W (signedW W a + signedW W m + (c.toNat : Int))) ∧
    ((subBin W a m c).r.toNat : Int) = ((a.toNat : Int) - m.toNat - 1 + c.toNat) % 2 ^ W.bits ∧
    (subBin W a m c).c = decide (m.toNat + 1 ≤ a.toNat + c.toNat) ∧
    ((subBin W a m c).v = true ↔ ¬ fitsSigned W (signedW W a - signedW W m - 1 + (c.toNat : Int)))

/-- 43_alu.md R222, R223: on bytes whose digits are decimal, the decimal adder adds and the decimal subtractor subtracts
modulo 100, with carry out of the hundred (not-borrow). On any bytes: the digits they compute, C out of the high digit
(out of the byte), V from the unadjusted output, N and Z from the output that DEC_NZ_SOURCE selects. -/
def Obligations.DecimalAdderAddsDecimalDigits : Prop :=
  ∀ (src : DecNzSource) (a m : Byte) (c : Bool),
    let negative := fun n : Nat => decide (128 ≤ n)
    let flagsOf := fun (u : Nat) (d : DecSum) =>
      let f := match src with | .unadjusted => u | .adjusted => d.r.toNat
      d.n = negative f ∧ d.z = decide (f = 0)
    (isBcd a → isBcd m →
      isBcd (addDec src a m c).r ∧
      bcdValue (addDec src a m c).r = (bcdValue a + bcdValue m + c.toNat) % 100 ∧
      (addDec src a m c).c = decide (100 ≤ bcdValue a + bcdValue m + c.toNat) ∧
      isBcd (subDec src a m c).r ∧
      bcdValue (subDec src a m c).r = (bcdValue a + 99 + c.toNat - bcdValue m) % 100 ∧
      (subDec src a m c).c = decide (bcdValue m + 1 ≤ bcdValue a + c.toNat)) ∧
    (let d := addDec src a m c
      let lo := a.toNat % 16 + m.toNat % 16 + c.toNat
      let hi := a.toNat / 16 + m.toNat / 16 + (if 10 ≤ lo then 1 else 0)
      let u := hi % 16 * 16 + lo % 16
      d.r.toNat % 16 = (lo + (if 10 ≤ lo then 6 else 0)) % 16 ∧
      d.r.toNat / 16 = (hi + (if 10 ≤ hi then 6 else 0)) % 16 ∧
      d.c = decide (10 ≤ hi) ∧
      d.v = decide (negative a.toNat = negative m.toNat ∧ negative u ≠ negative a.toNat) ∧ flagsOf u d) ∧
    (let d := subDec src a m c
      let u := (a.toNat + (255 - m.toNat) + c.toNat) % 256
      let lowBorrow := decide (a.toNat % 16 + c.toNat < m.toNat % 16 + 1)
      let borrow := decide (a.toNat + c.toNat < m.toNat + 1)
      d.r.toNat % 16 = (u + (if lowBorrow then 10 else 0)) % 16 ∧
      d.r.toNat / 16 = (u + (if borrow then 160 else 0)) / 16 % 16 ∧
      d.c = !borrow ∧
      d.v = decide (negative a.toNat ≠ negative m.toNat ∧ negative u ≠ negative a.toNat) ∧ flagsOf u d)

/-! ## Encoding -/

/-- 30_encoding.md sections 1 and 2: decoding an encoded well-formed instruction gives it back, with the bytes that
follow it, under every admitted configuration and every PrefixState. -/
def Obligations.DecodeOfEncodeIsTheInstruction : Prop :=
  ∀ (cfg : Config) (ps : PrefixState) (i : Instr) (rest : List Byte), cfg.wf = true → i.wf cfg ps = true →
    decode cfg ps (encode cfg ps i ++ rest) = .ok (.instr i, rest)

/-- 30_encoding.md sections 1 and 2: the other direction: bytes that decode to an instruction are its encoding, and the
instruction is well-formed. -/
def Obligations.EncodeOfDecodeIsTheBytes : Prop :=
  ∀ (cfg : Config) (ps : PrefixState) (bytes : List Byte) (i : Instr) (rest : List Byte), cfg.wf = true →
    decode cfg ps bytes = .ok (.instr i, rest) → bytes = encode cfg ps i ++ rest ∧ i.wf cfg ps = true

/-- 30_encoding.md section 1: an encoded well-formed instruction is its opcode byte and as many operand bytes as the
opcode's length under PrefixState says: at most three bytes in all. -/
def Obligations.EncodedLengthFollowsTheOpcode : Prop :=
  ∀ (cfg : Config) (ps : PrefixState) (i : Instr), cfg.wf = true → i.wf cfg ps = true →
    ∃ op tail, encode cfg ps i = op :: tail ∧ tail.length + 1 = opLength cfg ps op ∧ tail.length ≤ 2

/-- 30_encoding.md section 2: words written out from the opcode map decode to the instructions they stand for. -/
def Obligations.WrittenBytesDecode : Prop :=
  let d := fun ps bytes => decode Config.reference ps bytes
  let p := PrefixState.clear
  d p [0xA9, 0xAB] = .ok (.instr (.ldaImm 0x00AB), []) ∧
  d { p with siz := true } [0xA9, 0x34, 0x12] = .ok (.instr (.ldaImm 0x1234), []) ∧
  d p [0x70, 0x03] = .ok (.instr (.bvsRel 0x03), []) ∧
  d { p with ind := true } [0x80, 0x00, 0x10] = .ok (.instr (.braRel16 0x1000), []) ∧
  d p [0x7F, 0x10, 0x05] = .ok (.instr (.bbr7 0x10 0x05), []) ∧
  d p [0x6C, 0xFF, 0x10] = .ok (.instr (.jmpAbsI 0x10FF), []) ∧
  d { p with ind := true, siz := true } [0x4A] = .ok (.instr .asr, []) ∧
  d p [0xFC] = .error (.unassignedSlot 0xFC)

/-- 30_encoding.md section 2: the slots with no base entry are exactly the 46 free ones, and a free slot that no
parameter names is refused. -/
def Obligations.FreeSlotsAreOutsideTheMap : Prop :=
  freeSlots.length = 46 ∧ (∀ op : Byte, baseEntry op = none ↔ op ∈ freeSlots) ∧
  ∀ (cfg : Config) (op : Byte), (∀ e, (e, op) ∉ cfg.extOpcodes) → (∀ o, (op, o) ∉ cfg.ippOps) →
    op ∉ cfg.unimplementedSlots → slotKind cfg op = .refused

/-! ## The step -/

/-- 46_control.md section 5, 30_encoding.md R87, 10_state.md R30: a step decodes the bytes at PC, PC + 1 and PC + 2
modulo 2^16. Where no interrupt is accepted and they hold an instruction, the step runs that instruction with PC past
its bytes, then clears PrefixState and counts the instruction unless it is a prefix, and adds the opcode's cycles. -/
def Obligations.StepRunsTheDecodedInstruction : Prop :=
  ∀ s : State,
    let op := s.readByte s.pc
    let read := decode s.cfg s.ps [op, s.readByte (s.pc + 1#16), s.readByte (s.pc + 2#16)]
    decodeAt s = read ∧ s.opcode = op ∧
    ∀ (i : Instr) (rest : List Byte), acceptInterrupt s = none → read = .ok (.instr i, rest) →
      let n := 3 - rest.length
      let start := { s with
        pc := s.pc + BitVec.ofNat 16 n
        counters := { s.counters with progReads := s.counters.progReads + n } }
      let ended := fun t : State => { t with
        ps := if isPrefix i then t.ps else PrefixState.clear
        counters := { t.counters with
          instructions := t.counters.instructions + (if isPrefix i then 0 else 1)
          cycles := t.counters.cycles + Config.cyclesOf op
          dummyCycles := t.counters.dummyCycles + Config.dummyCyclesOf op } }
      step s = andThen ended (exec i start)

/-- 41_prefix.md R152: every step that runs no prefix ends with all six flags 0: every other instruction, an ipp-mode
operation, an unimplemented slot and an interrupt entry. -/
def Obligations.OtherStepsClearPrefixState : Prop :=
  ∀ s t : State, step s = .next t →
    (acceptInterrupt s = none → ∀ i rest, decodeAt s = .ok (.instr i, rest) → isPrefix i = false) →
    t.ps = PrefixState.clear

/-- 41_prefix.md sections 1 and 2: a prefix's step fetches its byte, adds its flags to PrefixState, and changes nothing
else but counters; it is not counted as an instruction. Which flags OSZ, OIS and ISZ set is the spec's own inference
(R166 to R168, decision D16; OIS_FLAGS for OIS). -/
def Obligations.PrefixStepAddsItsFlags : Prop :=
  ∀ (s : State) (i : Instr) (q : PrefixState), prefixFlags s.cfg i = some q →
    let ps : PrefixState :=
      ⟨s.ps.osx || q.osx, s.ps.ind || q.ind, s.ps.siz || q.siz, s.ps.oax || q.oax, s.ps.oay || q.oay, s.ps.lscx⟩
    exec i s = .next { s with ps := ps } ∧
    (acceptInterrupt s = none → ∀ rest, decodeAt s = .ok (.instr i, rest) →
      step s = .next { s with
        pc := s.pc + 1#16
        ps := ps
        counters := { s.counters with
          progReads := s.counters.progReads + 1
          cycles := s.counters.cycles + Config.cyclesOf s.opcode
          dummyCycles := s.counters.dummyCycles + Config.dummyCyclesOf s.opcode } })

/-- 30_encoding.md section 3, 46_control.md section 6: a slot outside the base map: unimplemented advances PC by
UNIMPL_ADVANCE and is not counted; refused stops the step; an ipp-mode slot runs its operation past its placeholder
byte. -/
def Obligations.SlotsOutsideTheMapStep : Prop :=
  ∀ (s : State), acceptInterrupt s = none → baseEntry s.opcode = none →
    (slotKind s.cfg s.opcode = .unimplemented →
      step s = .next { s with
        pc := s.pc + s.cfg.unimplAdvance.toWord
        ps := PrefixState.clear
        counters := { s.counters with
          progReads := s.counters.progReads + 1
          cycles := s.counters.cycles + Config.cyclesOf s.opcode
          dummyCycles := s.counters.dummyCycles + Config.dummyCyclesOf s.opcode } }) ∧
    (slotKind s.cfg s.opcode = .refused → step s = .refused (.unassignedSlot s.opcode)) ∧
    (∀ o, slotKind s.cfg s.opcode = .ipp o → ∀ t, execIpp o (s.fetched 2) = .next t →
      step s = .next { t with
        ps := PrefixState.clear
        counters := { t.counters with
          instructions := t.counters.instructions + 1
          cycles := t.counters.cycles + Config.cyclesOf s.opcode
          dummyCycles := t.counters.dummyCycles + Config.dummyCyclesOf s.opcode } })

/-- 60_exceptions.md section 1: at the start of a step with no prefix flag set, a pending NMI is taken through VEC_NMI
and its latch cleared; else an asserted IRQ with I clear is taken through VEC_IRQ; an accepted interrupt is the whole
step; after a prefix none is accepted. That the entry leaves the dummy-cycle counter is the model's reading
(log 19). -/
def Obligations.InterruptAcceptance : Prop :=
  ∀ (s : State),
    let counted := fun t : State =>
      { t with counters := { t.counters with cycles := t.counters.cycles + Config.interruptCycles } }
    (s.ps.any = true → acceptInterrupt s = none) ∧
    (s.ps.any = false → s.nmiPending = true →
      step s = .next (counted (trapEntry s.cfg.vecNmi { s with nmiPending := false }))) ∧
    (s.ps.any = false → s.nmiPending = false → s.irq = true → getFlag .i s.p = false →
      step s = .next (counted (trapEntry s.cfg.vecIrq s))) ∧
    (s.nmiPending = false → (s.irq = false ∨ getFlag .i s.p = true) → acceptInterrupt s = none)

/-! ## Traps, return, reset -/

/-- 60_exceptions.md section 2, 46_control.md section 3: TrapEntry pushes PC high, PC low and P with BREAK set on the
kernel stack (on the active stack under the literal order), sets M and I, clears D, loads PC from the vector, and
changes nothing else; BRK takes it through VEC_IRQ with the return address past its signature byte. -/
def Obligations.TrapEntrySavesPcAndStatus : Prop :=
  (∀ (s : State) (v : Word), s.mem.wf = true →
    let t := trapEntry v s
    let k := if s.cfg.trapStackOrder = .kernelFirst then s.spKernel else s.sp
    t.readByte k = hiByte s.pc ∧ t.readByte (sDec k) = loByte s.pc ∧ t.readByte (sDec (sDec k)) = s.p ||| 0x10#8 ∧
    SameMemoryBut [k, sDec k, sDec (sDec k)] s t ∧
    (if s.cfg.trapStackOrder = .kernelFirst ∨ getFlag .m s.p = true
      then t.spKernel = sDec (sDec (sDec k)) ∧ t.spUser = s.spUser
      else t.spUser = sDec (sDec (sDec k)) ∧ t.spKernel = s.spKernel) ∧
    getFlag .m t.p = true ∧ getFlag .i t.p = true ∧ getFlag .d t.p = false ∧ SameFlagsBut [.m, .i, .d] s t ∧
    t.pc = mkWord (t.readByte (v + 1#16)) (t.readByte v) ∧
    SameRegisters s t ∧ SameBackground s t ∧ t.ps = s.ps ∧ Counted 2 3 s t) ∧
  ∀ s : State, exec .brk s =
    .next (trapEntry s.cfg.vecIrq
      { s with pc := match s.cfg.brkReturnOffset with | .one => s.pc | .two => s.pc + 1#16 })

/-- 46_control.md section 3: RTI pulls P, with BREAK set and M from the pulled byte, then PC: the whole frame from the
stack active when it starts, or under the literal order PC from the stack that the pulled M selects. -/
def Obligations.RtiRestoresStatusAndPc : Prop :=
  ∀ s : State, ∃ t, exec .rti s = .next t ∧
    let m := getFlag .m s.p
    let ptr := fun (u : State) (k : Bool) => if k then u.spKernel else u.spUser
    let k1 := sInc s.sp
    let b := s.readByte k1
    let j := if s.cfg.trapStackOrder = .kernelFirst ∨ getFlag .m b = m then k1 else ptr s (!m)
    t.p = b ||| 0x10#8 ∧
    t.pc = mkWord (s.readByte (sInc (sInc j))) (s.readByte (sInc j)) ∧
    (if s.cfg.trapStackOrder = .kernelFirst ∨ getFlag .m b = m
      then ptr t m = sInc (sInc j) ∧ ptr t (!m) = ptr s (!m)
      else ptr t m = k1 ∧ ptr t (!m) = sInc (sInc j)) ∧
    SameMemory s t ∧ SameRegisters s t ∧ SameBackground s t ∧ t.ps = s.ps ∧ Counted 3 0 s t

/-- 60_exceptions.md sections 2 and 4: under kernelFirst, with a kernel stack that does not cross the 512 threshold, RTI
right after a trap entry restores P (with BREAK set), PC and both stack pointers, from either context. -/
def Obligations.ReturnUndoesTheTrap : Prop :=
  ∀ (s : State) (v : Word), s.mem.wf = true → s.cfg.trapStackOrder = .kernelFirst →
    (s.spKernel.toNat < 512 ∨ 515 ≤ s.spKernel.toNat) →
    ∃ t, exec .rti (trapEntry v s) = .next t ∧ t.p = s.p ||| 0x10#8 ∧ t.pc = s.pc ∧
      SameStackPointers s t ∧ SameRegisters s t ∧ SameBackground s t ∧
      SameMemoryBut [s.spKernel, sDec s.spKernel, sDec (sDec s.spKernel)] s t

/-- 70_reset_and_hazards.md section 1: reset puts every register at its parameter, clears PrefixState, the NMI latch and
the counters, leaves memory but for RESET_SEED, and loads PC from the RESET vector. That it keeps the IRQ level (log 18)
and the configuration (log 2) is the model's choice of where these inputs stand. -/
def Obligations.ResetSetsEveryElement : Prop :=
  ∀ s : State, s.mem.wf = true →
    let t := resetCore s
    t.a = ⟨s.cfg.resetA, s.cfg.resetA, s.cfg.resetA⟩ ∧ t.x = ⟨s.cfg.resetX, s.cfg.resetX, s.cfg.resetX⟩ ∧
    t.y = ⟨s.cfg.resetY, s.cfg.resetY, s.cfg.resetY⟩ ∧
    t.spUser = s.cfg.resetSp0 ∧ t.spKernel = s.cfg.resetSp1 ∧ t.ip = s.cfg.resetIp ∧ t.wp = s.cfg.resetWp ∧
    t.p = s.cfg.resetP ∧ t.ps = PrefixState.clear ∧ t.nmiPending = false ∧ t.irq = s.irq ∧ t.cfg = s.cfg ∧
    t.counters = ⟨0, 0, 0, 0, 0, 0⟩ ∧
    t.pc = mkWord (t.readByte (s.cfg.vecReset + 1#16)) (t.readByte s.cfg.vecReset) ∧
    (s.cfg.resetSeed = none → t.mem = s.mem) ∧
    (∀ w, s.cfg.resetSeed = some w →
      t.pc = w ∧ SameMemoryBut [s.cfg.vecReset, s.cfg.vecReset + 1#16] s t)

/-- 70_reset_and_hazards.md section 1: the model's reset state is reset in the reference configuration over a memory
with nothing listed (logs 1 and 5 name the model's choices: zeros as that memory, IRQ not asserted), its values are
those of the reference configuration, and it is sound. -/
def Obligations.ResetStateIsTheReference : Prop :=
  (∀ s : State, s.cfg = Config.reference → s.mem = [] → s.irq = false → resetCore s = State.reset) ∧
  State.reset.p = 0x34#8 ∧ State.reset.spUser = 0x00FF#16 ∧ State.reset.spKernel = 0x01FF#16 ∧ Sound State.reset

/-! ## Properties of every step -/

/-- 10_state.md sections 4 and 6, log 1: canonical memory, an admitted configuration, a clear lscx and a set P.B are
kept by every step. -/
def Obligations.StepKeepsSoundness : Prop :=
  ∀ s t : State, Sound s → step s = .next t → Sound t

/-- 00_scope.md R7, 70_reset_and_hazards.md R472, 60_exceptions.md R411 and R412, 10_state.md R49: the host raises NMI (a
second request merges), drives the IRQ level, and writes one register slot, pointer, PC, IP, WP, P, PrefixState,
NMI_PENDING, the counters or a byte range of memory (kept canonical, log 1), changing nothing else. No step changes the
configuration or the IRQ level, and only an NMI entry changes the NMI latch. That the configuration (log 2) and the IRQ
level (log 5) are fields of the state, that a byte range past 0xFFFF continues at 0x0000 (log 22), and that the host's
writes reach what R7 says beyond R472's list (log 23), is the model's choice. -/
def Obligations.HostWritesOneElementStepsKeepInputs : Prop :=
  (∀ s t : State, step s = .next t →
    t.cfg = s.cfg ∧ t.irq = s.irq ∧
    (t.nmiPending ≠ s.nmiPending → s.nmiPending = true ∧ t.nmiPending = false ∧ acceptInterrupt s = some t)) ∧
  (∀ s : State, raiseNmi s = { s with nmiPending := true } ∧ raiseNmi (raiseNmi s) = raiseNmi s ∧
    (∀ level, setIrq level s = { s with irq := level }) ∧
    (∀ v, hostSetSp false v s = { s with spUser := v } ∧ hostSetSp true v s = { s with spKernel := v } ∧
      hostSetPc v s = { s with pc := v } ∧ hostSetIp v s = { s with ip := v } ∧ hostSetWp v s = { s with wp := v }) ∧
    (∀ v, hostSetP v s = { s with p := v }) ∧ (∀ v, hostSetPs v s = { s with ps := v }) ∧
    (∀ v, hostSetNmiPending v s = { s with nmiPending := v }) ∧
    (∀ v, hostSetCounters v s = { s with counters := v })) ∧
  (∀ (s : State) (r q : RegName) (k j : Fin 3) (v : Word),
    let t := hostSetSlot r k v s
    hostSlot q j t = (if q = r ∧ j = k then v else hostSlot q j s) ∧ t = { s with a := t.a, x := t.x, y := t.y } ∧
    hostSlot q 0 s = (s.stack q).tos ∧ hostSlot q 1 s = (s.stack q).nos ∧ hostSlot q 2 s = (s.stack q).bos) ∧
  ∀ (s : State) (a b : Word) (v : Byte) (bytes : List Byte) (n : Nat), s.mem.wf = true →
    let t := hostSetByte a v s
    let u := hostLoad a bytes s
    t.mem.wf = true ∧ u.mem.wf = true ∧ hostByte a s = s.readByte a ∧
    t.readByte b = (if b = a then v else s.readByte b) ∧ t = { s with mem := t.mem } ∧
    (bytes.length ≤ 65536 → u.readByte b = (bytes[(b - a).toNat]?).getD (s.readByte b)) ∧ u = { s with mem := u.mem } ∧
    (hostSave a n s).length = n ∧
    ∀ k, k < n → (hostSave a n s)[k]? = some (s.readByte (a + BitVec.ofNat 16 k))

/-- 46_control.md R380: MODE changes only in an interrupt entry or BRK, which set it, or in RTI; no instruction but PLP
and RTI, which set it, changes BREAK. -/
def Obligations.ModeChangesOnlyByTrapOrRti : Prop :=
  (∀ s t : State, step s = .next t → getFlag .m t.p ≠ getFlag .m s.p →
    (acceptInterrupt s = some t ∧ getFlag .m t.p = true) ∨
    (∃ rest, decodeAt s = .ok (.instr .brk, rest) ∧ getFlag .m t.p = true) ∨
    (∃ rest, decodeAt s = .ok (.instr .rti, rest))) ∧
  ∀ s t : State, step s = .next t → getFlag .b t.p ≠ getFlag .b s.p →
    getFlag .b t.p = true ∧
    ((∃ rest, decodeAt s = .ok (.instr .plp, rest)) ∨ (∃ rest, decodeAt s = .ok (.instr .rti, rest)))

/-- 10_state.md R21: every instruction but DUP, SWP and ROT, and every ipp-mode operation, neither reads nor writes
slots 1 and 2: with other contents there it does the same and leaves them. -/
def Obligations.OnlyStackMovesTouchLowerSlots : Prop :=
  (∀ (i : Instr) (l : LowerSlots) (s : State), i ≠ .dup → i ≠ .swp → i ≠ .rot →
    exec i (withLower l s) = andThen (withLower l) (exec i s)) ∧
  ∀ (o : IppOp) (l : LowerSlots) (s : State), execIpp o (withLower l s) = andThen (withLower l) (execIpp o s)

/-- 10_state.md section 2: no instruction but BRK, and RTI under the literal order, changes the inactive stack pointer;
an ipp-mode operation changes neither: for LDX under osx this is the model's reading of 40_addressing.md section 8
against R158 (log 12). -/
def Obligations.InactivePointerIsUntouched : Prop :=
  (∀ (i : Instr) (s t : State), exec i s = .next t → i ≠ .brk →
    (i = .rti → s.cfg.trapStackOrder = .kernelFirst) → SameInactivePointer s t) ∧
  ∀ (o : IppOp) (s t : State), execIpp o s = .next t → SameStackPointers s t

/-- 10_state.md section 5: IP is written only by NXT, ENT, PLI, INI and ipp accesses, WP only by NXT and ENT. -/
def Obligations.ForthPointersHaveFewWriters : Prop :=
  (∀ (i : Instr) (s t : State), exec i s = .next t →
    (t.ip ≠ s.ip → i = .nxt ∨ i = .ent ∨ i = .pli ∨ i = .ini) ∧ (t.wp ≠ s.wp → i = .nxt ∨ i = .ent)) ∧
  ∀ (o : IppOp) (s t : State), execIpp o s = .next t → t.wp = s.wp

/-- 10_state.md section 8: what a step that runs an instruction of the table adds to the counters: program reads by the
instruction's length, data reads and data writes by the bytes the instruction reads and writes, instructions by one
unless it is a prefix, and the opcode's cycles. -/
def Obligations.CountersFollowTheAccesses : Prop :=
  ∀ (s t : State) (i : Instr) (rest : List Byte), acceptInterrupt s = none → decodeAt s = .ok (.instr i, rest) →
    step s = .next t →
    t.counters =
      { progReads := s.counters.progReads + opLength s.cfg s.ps s.opcode
        dataReads := s.counters.dataReads + dataReads i s
        dataWrites := s.counters.dataWrites + dataWrites i s
        instructions := s.counters.instructions + (if isPrefix i then 0 else 1)
        cycles := s.counters.cycles + Config.cyclesOf s.opcode
        dummyCycles := s.counters.dummyCycles + Config.dummyCyclesOf s.opcode }

/-- 00_scope.md section 5, 10_state.md section 9: a step answers a next state, except PrefixConflict when oax and oay
are both set and a refusal when the opcode is a slot that the configuration leaves refused. A marked state whose step
stops keeps its hardware state, and no later step runs. -/
def Obligations.StepStopsOnlyAsTheSpecSays : Prop :=
  (∀ s : State,
    (∃ t, step s = .next t) ∨
    (step s = .fault .prefixConflict ∧ s.ps.oax = true ∧ s.ps.oay = true) ∨
    (step s = .refused (.unassignedSlot s.opcode) ∧ baseEntry s.opcode = none ∧
      slotKind s.cfg s.opcode = .refused)) ∧
  ∀ (m : Marked) (n : Nat),
    ((∀ t, step m.hw ≠ .next t) → (markedStep m).hw = m.hw ∧ (markedStep m).mark ≠ .running) ∧
    (m.mark ≠ .running → markedStep^[n] m = m ∧ (markedReset m).mark = m.mark)

/-- 41_prefix.md section 1: with oax and oay both set, exactly the instructions that honour them fault; every other
instruction, and every instruction without the pair, answers a next state. -/
def Obligations.PrefixConflictFaults : Prop :=
  ∀ (i : Instr) (s : State),
    (honoursExchange i = true → s.conflict = true → exec i s = .fault .prefixConflict) ∧
    (honoursExchange i = false ∨ s.conflict = false → ∃ t, exec i s = .next t)

/-! ## Addressing -/

/-- 40_addressing.md sections 1 and 2: the zero-page modes without active osx (osx clear, or lscx set) and ind: within
page 0, by zp and by index. -/
def Obligations.ZeroPageAddresses : Prop :=
  ∀ (s : State) (z : Byte), (s.ps.osx = false ∨ s.ps.lscx = true) → s.ps.ind = false →
    (s.effAddr (.zp z)).addr.toNat = z.toNat ∧
    (s.effAddr (.zpX z)).addr.toNat = (z.toNat + (s.slot0 (s.rho .x)).toNat) % 256 ∧
    (s.effAddr (.zpY z)).addr.toNat = (z.toNat + (s.slot0 (s.rho .y)).toNat) % 256 ∧
    (s.effAddr (.zp z)).wrap = .page ∧ (s.effAddr (.zpX z)).wrap = .page ∧ (s.effAddr (.zpY z)).wrap = .page

/-- 40_addressing.md sections 1 and 2: the zero-page modes under active osx (osx set, lscx clear): below 512 confined to
the page of S; from 512 on the whole space, the offset sign-extended for the indexed forms and zero-extended for zp.
OSX_KEEPS_INDEX adds the index. -/
def Obligations.StackRelativeZeroPageAddresses : Prop :=
  ∀ (s : State) (z : Byte) (r : RegName) (m : MemMode), s.ps.osx = true → s.ps.lscx = false → s.ps.ind = false →
    (r = .x ∧ m = .zpX z ∨ r = .y ∧ m = .zpY z) →
    let i := if s.cfg.osxKeepsIndex then (s.slot0 (s.rho r)).toNat else 0
    (s.sp.toNat < 512 →
      (s.effAddr (.zp z)).addr.toNat = s.sp.toNat / 256 * 256 + (s.sp.toNat + z.toNat) % 256 ∧
      (s.effAddr m).addr.toNat = s.sp.toNat / 256 * 256 + (s.sp.toNat + z.toNat + i) % 256 ∧
      (s.effAddr (.zp z)).wrap = .page ∧ (s.effAddr m).wrap = .page) ∧
    (512 ≤ s.sp.toNat →
      (s.effAddr (.zp z)).addr.toNat = (s.sp.toNat + z.toNat) % 65536 ∧
      (s.effAddr m).addr = BitVec.ofInt 16 (s.sp.toNat + z.toInt + i) ∧
      (s.effAddr (.zp z)).wrap = .full ∧ (s.effAddr m).wrap = .full)

/-- 40_addressing.md sections 1 and 4: the absolute modes: modulo 2^16, relocated by S under active osx (osx set, lscx
clear) without a threshold. -/
def Obligations.AbsoluteAddresses : Prop :=
  ∀ (s : State) (a : Word) (r : RegName) (m : MemMode), s.ps.ind = false →
    (r = .x ∧ m = .absX a ∨ r = .y ∧ m = .absY a) →
    let i := (s.slot0 (s.rho r)).toNat
    (s.ps.osx = false ∨ s.ps.lscx = true →
      (s.effAddr (.abs a)).addr = a ∧ (s.effAddr m).addr.toNat = (a.toNat + i) % 65536) ∧
    (s.ps.osx = true ∧ s.ps.lscx = false →
      (s.effAddr (.abs a)).addr.toNat = (s.sp.toNat + a.toNat) % 65536 ∧
      (s.effAddr m).addr.toNat = (s.sp.toNat + a.toNat + (if s.cfg.osxKeepsIndex then i else 0)) % 65536) ∧
    (s.effAddr (.abs a)).wrap = .full ∧ (s.effAddr m).wrap = .full

/-- 40_addressing.md sections 2 to 4, 10_state.md R48: the indirect modes read a little-endian pointer at the address of
the mode they are built on, zpIY adds Y after every indirection, and ind adds one indirection to every mode; each
pointer is two data reads. -/
def Obligations.IndirectAddresses : Prop :=
  (∀ (s : State) (z : Byte) (a : Word), s.ps.ind = false →
    s.effAddr (.zpI z) = ⟨s.readWord (s.effAddr (.zp z)), .full⟩ ∧
    s.effAddr (.zpXI z) = ⟨s.readWord (s.effAddr (.zpX z)), .full⟩ ∧
    s.effAddr (.zpIY z) = ⟨s.readWord (s.effAddr (.zp z)) + s.slot0 (s.rho .y), .full⟩ ∧
    s.effAddr (.absI a) = ⟨s.readWord (s.effAddr (.abs a)), .full⟩ ∧
    s.effAddr (.absXI a) = ⟨s.readWord (s.effAddr (.absX a)), .full⟩ ∧
    (∀ m ∈ [.zp z, .zpX z, .zpY z, .abs a, .absX a, .absY a, .ipp], s.pointerReads m = 0) ∧
    (∀ m ∈ [.zpI z, .zpXI z, .zpIY z, .absI a, .absXI a], s.pointerReads m = 2)) ∧
  ∀ (s : State) (m : MemMode) (z : Byte), s.ps.ind = true →
    let u : State := { s with ps := { s.ps with ind := false } }
    s.pointerReads m = u.pointerReads m + 2 ∧
    ((∀ z, m ≠ .zpIY z) → s.effAddr m = ⟨s.readWord (u.effAddr m), .full⟩) ∧
    s.effAddr (.zpIY z) = ⟨s.readWord (u.effAddr (.zpI z)) + s.slot0 (s.rho .y), .full⟩

/-- 47_forth_vm.md section 3, 40_addressing.md section 8: each of the 26 ipp-mode operations does its own rule to the
datum at IP (under ind at the address IP points to), moves IP by the bytes of the datum once, unless ind, and leaves all
else; oax with oay faults where the operation honours them. Logs 11, 12 and 17 name what the model adds: RMBn and SMBn
stay a byte wide and outside the exchange, osx has no effect on LDX, STX and CPX, and STZ counts as honouring. -/
def Obligations.IppOperationsWorkAtIp : Prop :=
  ∀ s : State, s.mem.wf = true →
    let W := s.width
    let ea : EA := ⟨if s.ps.ind then s.readWord ⟨s.ip, .full⟩ else s.ip, .full⟩
    let v := s.readMem ea W
    let a := maskW W (s.slot0 (s.rho .a))
    let frame := fun (U : Width) (r w : Nat) (t : State) =>
      t.ip = (if s.ps.ind then s.ip else s.ip + BitVec.ofNat 16 U.bytes) ∧ t.wp = s.wp ∧ t.pc = s.pc ∧
      t.nmiPending = s.nmiPending ∧ t.irq = s.irq ∧ t.cfg = s.cfg ∧ t.ps = s.ps ∧ SameStackPointers s t ∧
      Counted ((if s.ps.ind then 2 else 0) + r) w s t
    let intoRegister := fun (r : RegName) (t : State) =>
      SameRegistersBut (s.rho r) s t ∧ SameMemory s t ∧ frame W W.bytes 0 t
    let tested := fun t : State => SameRegisters s t ∧ SameMemory s t ∧ frame W W.bytes 0 t
    let stored := fun (r : Nat) (t : State) =>
      SameRegisters s t ∧ SameMemoryBut (bytesAt ea W) s t ∧ frame W r W.bytes t
    (s.conflict = false →
      (∀ o r, (o = .lda ∧ r = .a ∨ o = .ldx ∧ r = .x ∨ o = .ldy ∧ r = .y) →
        ∃ t, execIpp o s = .next t ∧ SlotHolds (s.rho r) W v s t ∧ FlagsOfValue W v [] s t ∧ intoRegister r t) ∧
      (∀ o w, (o = .sta ∧ w = a ∨ o = .stx ∧ w = maskW W (s.slot0 (s.rho .x)) ∨
          o = .sty ∧ w = maskW W (s.slot0 (s.rho .y)) ∨ o = .stz ∧ w = 0#16) →
        ∃ t, execIpp o s = .next t ∧ t.readMem ea W = w ∧ t.p = s.p ∧ stored 0 t) ∧
      (∃ t, execIpp .adc s = .next t ∧ SumIn (s.rho .a) W a v s t ∧ intoRegister .a t) ∧
      (∃ t, execIpp .sbc s = .next t ∧ DifferenceIn (s.rho .a) W a v s t ∧ intoRegister .a t) ∧
      (∀ o w, (o = .and ∧ w = a &&& v ∨ o = .ora ∧ w = a ||| v ∨ o = .eor ∧ w = a ^^^ v) →
        ∃ t, execIpp o s = .next t ∧ SlotHolds (s.rho .a) W w s t ∧ FlagsOfValue W w [] s t ∧ intoRegister .a t) ∧
      (∀ o r, (o = .cmp ∧ r = .a ∨ o = .cpx ∧ r = .x ∨ o = .cpy ∧ r = .y) →
        ∃ t, execIpp o s = .next t ∧ FlagsOfCompare W (s.slot0 (s.rho r)) v s t ∧ tested t) ∧
      (∃ t, execIpp .bit s = .next t ∧ FlagsOfBitTest W a v s t ∧ tested t) ∧
      (∀ o, isShift o = true →
        let w := shiftedValue o W v.toNat (getFlag .c s.p)
        ∃ t, execIpp o s = .next t ∧ (t.readMem ea W).toNat = w ∧
          getFlag .c t.p = shiftedCarry o W v.toNat (getFlag .c s.p) ∧
          FlagsOfValue W (BitVec.ofNat 16 w) [.c] s t ∧ stored W.bytes t) ∧
      (∀ o b, (o = .tsb ∧ b = true ∨ o = .trb ∧ b = false) →
        ∃ t, execIpp o s = .next t ∧ (∀ k, (t.readMem ea W).getLsbD k = if a.getLsbD k then b else v.getLsbD k) ∧
          getFlag .z t.p = decide (a &&& v = 0#16) ∧ SameFlagsBut [.z] s t ∧ stored W.bytes t)) ∧
    (∀ (n : Fin 8) o b, (o = .rmb n ∧ b = false ∨ o = .smb n ∧ b = true) →
      ∃ t, execIpp o s = .next t ∧
        (∀ k, k < 8 → (t.readByte ea.addr).getLsbD k = if k = n.val then b else (s.readByte ea.addr).getLsbD k) ∧
        t.p = s.p ∧ SameRegisters s t ∧ SameMemoryBut [ea.addr] s t ∧ frame .byte 1 1 t) ∧
    (s.conflict = true → ∀ o, (∀ n, o ≠ .rmb n ∧ o ≠ .smb n) → execIpp o s = .fault .prefixConflict)

/-! ## Loads, stores, transfers -/

/-- 42_load_store_transfer.md sections 1 and 2: LDA and LDY in every form load the operand at width W into slot 0 of
their register under the exchange, set N and Z from it, and change nothing else. The operand of every data instruction
is its immediate (the low byte of it at byte width, 40_addressing.md R129), or the byte or little-endian word at its
effective address. -/
def Obligations.LoadsOfAAndY : Prop :=
  (∀ (s : State) (v : Word) (m : MemMode),
    let ea := s.effAddr m
    (s.operandValue (.imm v) .byte).toNat = v.toNat % 256 ∧ s.operandValue (.imm v) .word = v ∧
    (s.operandValue (.mem m) .byte).toNat = (s.readByte ea.addr).toNat ∧
    (s.operandValue (.mem m) .word).toNat = (s.readByte ea.nextAddr).toNat * 256 + (s.readByte ea.addr).toNat) ∧
  ∀ (i : Instr) (o : Operand) (r : RegName) (s : State), s.conflict = false →
    (dataForm i = some (.lda, o) ∧ r = .a ∨ dataForm i = some (.ldy, o) ∧ r = .y) →
    let W := s.width
    let v := s.operandValue o W
    ∃ t, exec i s = .next t ∧ SlotHolds (s.rho r) W v s t ∧ FlagsOfValue W v [] s t ∧
      SameRegistersBut (s.rho r) s t ∧ SameStackPointers s t ∧ SameMemory s t ∧ SameControl s t ∧ t.ps = s.ps ∧
      Counted (operandReads s o W) 0 s t

/-- 42_load_store_transfer.md section 2, 41_prefix.md section 1: LDX in every form: the operand is addressed as if osx
were clear; under osx (where OSX_REG_REDIRECT holds and oax is clear) the active stack pointer is loaded in place of
X. -/
def Obligations.LoadOfX : Prop :=
  ∀ (i : Instr) (o : Operand) (s : State), s.conflict = false → dataForm i = some (.ldx, o) →
    let W := s.width
    let u : State := { s with ps := { s.ps with osx := false } }
    let v := u.operandValue o W
    ∃ t, exec i s = .next t ∧
      (if s.ps.osx = true ∧ s.cfg.osxRegRedirect = true ∧ s.ps.oax = false
        then PointerHolds W v s t ∧ SameInactivePointer s t ∧ SameRegisters s t
        else SlotHolds (s.rho .x) W v s t ∧ SameRegistersBut (s.rho .x) s t ∧ SameStackPointers s t) ∧
      FlagsOfValue W v [] s t ∧ SameMemory s t ∧ SameControl s t ∧
      t.ps = { s.ps with lscx := s.ps.lscx || s.ps.osx } ∧ Counted (operandReads s o W) 0 s t

/-- 42_load_store_transfer.md section 3: STA, STY and STZ in every form store their register under the exchange, or
zero, at the operand's address, and change no other byte, no flag and no register. -/
def Obligations.StoresOfAYAndZero : Prop :=
  ∀ (i : Instr) (m : MemMode) (v : Word) (s : State), s.conflict = false → s.mem.wf = true →
    (dataForm i = some (.sta, .mem m) ∧ v = s.slot0 (s.rho .a) ∨
      dataForm i = some (.sty, .mem m) ∧ v = s.slot0 (s.rho .y) ∨ dataForm i = some (.stz, .mem m) ∧ v = 0#16) →
    let W := s.width
    let ea := s.effAddr m
    ∃ t, exec i s = .next t ∧ t.readMem ea W = maskW W v ∧ SameMemoryBut (bytesAt ea W) s t ∧ t.p = s.p ∧
      SameRegisters s t ∧ SameStackPointers s t ∧ SameControl s t ∧ t.ps = s.ps ∧
      Counted (s.pointerReads m) W.bytes s t

/-- 42_load_store_transfer.md section 3, 41_prefix.md section 1: STX in every form: addressed as if osx were clear;
under osx (where OSX_REG_REDIRECT holds and oax is clear) the active stack pointer is stored in place of X. -/
def Obligations.StoreOfX : Prop :=
  ∀ (i : Instr) (m : MemMode) (s : State), s.conflict = false → s.mem.wf = true →
    dataForm i = some (.stx, .mem m) →
    let W := s.width
    let u : State := { s with ps := { s.ps with osx := false } }
    let ea := u.effAddr m
    let v := if s.ps.osx = true ∧ s.cfg.osxRegRedirect = true ∧ s.ps.oax = false then s.sp else s.slot0 (s.rho .x)
    ∃ t, exec i s = .next t ∧ t.readMem ea W = maskW W v ∧ SameMemoryBut (bytesAt ea W) s t ∧ t.p = s.p ∧
      SameRegisters s t ∧ SameStackPointers s t ∧ SameControl s t ∧
      t.ps = { s.ps with lscx := s.ps.lscx || s.ps.osx } ∧ Counted (s.pointerReads m) W.bytes s t

/-- 42_load_store_transfer.md section 4: TAX, TAY, TXA and TYA copy slot 0 of one register under the exchange to the
other at width W and set N and Z; the source and all else stay. The exchange, width and slot 0 that every data statement
uses: 41_prefix.md R155 and R156, 10_state.md R21, 00_scope.md R10. -/
def Obligations.Transfers : Prop :=
  (∀ (i : Instr) (src dst : RegName) (s : State), s.conflict = false → transferForm i = some (src, dst) →
    let W := s.width
    let v := maskW W (s.slot0 (s.rho src))
    ∃ t, exec i s = .next t ∧ SlotHolds (s.rho dst) W v s t ∧ FlagsOfValue W v [] s t ∧
      SameRegistersBut (s.rho dst) s t ∧ SameStackPointers s t ∧ t.mem = s.mem ∧ SameControl s t ∧ t.ps = s.ps ∧
      Counted 0 0 s t) ∧
  (∀ s : State,
    (s.ps.oax = true → s.ps.oay = false → s.rho .a = .x ∧ s.rho .x = .a ∧ s.rho .y = .y) ∧
    (s.ps.oax = false → s.ps.oay = true → s.rho .a = .y ∧ s.rho .y = .a ∧ s.rho .x = .x) ∧
    (s.ps.oax = false → s.ps.oay = false → ∀ r, s.rho r = r) ∧
    (s.conflict = true ↔ s.ps.oax = true ∧ s.ps.oay = true) ∧ (s.width = .word ↔ s.ps.siz = true) ∧
    (s.width = .byte ↔ s.ps.siz = false) ∧ s.slot0 .a = s.a.tos ∧ s.slot0 .x = s.x.tos ∧ s.slot0 .y = s.y.tos) ∧
  ∀ (W : Width) (v : Word),
    W.bits = 8 * W.bytes ∧ (W = .byte → W.bytes = 1) ∧ (W = .word → W.bytes = 2) ∧
    (maskW W v).toNat = v.toNat % 2 ^ W.bits ∧ msbW W v = decide (2 ^ (W.bits - 1) ≤ v.toNat % 2 ^ W.bits)

/-- 42_load_store_transfer.md section 5: TXS writes X under the exchange to the active stack pointer at width W and no
flag; TSX writes the active stack pointer to X under the exchange and sets N and Z. -/
def Obligations.TxsAndTsx : Prop :=
  ∀ s : State, s.conflict = false →
    let W := s.width
    (∃ t, exec .txs s = .next t ∧ PointerHolds W (s.slot0 (s.rho .x)) s t ∧ SameInactivePointer s t ∧ t.p = s.p ∧
      SameRegisters s t ∧ t.mem = s.mem ∧ SameControl s t ∧ t.ps = s.ps ∧ Counted 0 0 s t) ∧
    (∃ t, exec .tsx s = .next t ∧ SlotHolds (s.rho .x) W s.sp s t ∧ FlagsOfValue W s.sp [] s t ∧
      SameRegistersBut (s.rho .x) s t ∧ SameStackPointers s t ∧ t.mem = s.mem ∧ SameControl s t ∧ t.ps = s.ps ∧
      Counted 0 0 s t)

/-! ## ALU -/

/-- 43_alu.md section 3: ADC and SBC in every form. Binary (D clear, or a word): the exact sum or difference modulo 2^W,
C the carry or not-borrow, V the signed overflow, N and Z of the result. Decimal (D set, a byte): the decimal adder's
result and its four flags. -/
def Obligations.AdcAndSbc : Prop :=
  ∀ (i : Instr) (o : Operand) (s : State), s.conflict = false →
    let W := s.width
    let a := maskW W (s.slot0 (s.rho .a))
    let m := s.operandValue o W
    let frame := fun t : State =>
      SameRegistersBut (s.rho .a) s t ∧ SameStackPointers s t ∧ SameMemory s t ∧ SameControl s t ∧ t.ps = s.ps ∧
      Counted (operandReads s o W) 0 s t
    (dataForm i = some (.adc, o) → ∃ t, exec i s = .next t ∧ SumIn (s.rho .a) W a m s t ∧ frame t) ∧
    (dataForm i = some (.sbc, o) → ∃ t, exec i s = .next t ∧ DifferenceIn (s.rho .a) W a m s t ∧ frame t)

/-- 43_alu.md section 4: AND, ORA and EOR in every form write the bitwise result at width W to A under the exchange and
set N and Z from it. -/
def Obligations.BitwiseLogic : Prop :=
  ∀ (i : Instr) (op : IppOp) (o : Operand) (s : State) (r : Word), s.conflict = false →
    dataForm i = some (op, o) →
    (op = .and ∧ r = s.slot0 (s.rho .a) &&& s.operandValue o s.width ∨
      op = .ora ∧ r = maskW s.width (s.slot0 (s.rho .a)) ||| s.operandValue o s.width ∨
      op = .eor ∧ r = maskW s.width (s.slot0 (s.rho .a)) ^^^ s.operandValue o s.width) →
    let W := s.width
    ∃ t, exec i s = .next t ∧ SlotHolds (s.rho .a) W r s t ∧ FlagsOfValue W r [] s t ∧
      SameRegistersBut (s.rho .a) s t ∧ SameStackPointers s t ∧ SameMemory s t ∧ SameControl s t ∧ t.ps = s.ps ∧
      Counted (operandReads s o W) 0 s t

/-- 43_alu.md section 5: CMP, CPY and CPX in every form compare their register at width W with the operand: C is
register >= operand, Z is equality, N the sign of the difference, V the signed overflow for a word only; nothing else
changes. CPX is addressed as if osx were clear and compares S under osx as LDX loads it. -/
def Obligations.Compares : Prop :=
  ∀ (i : Instr) (o : Operand) (s : State), s.conflict = false →
    let W := s.width
    let u : State := { s with ps := { s.ps with osx := false } }
    let redirected := s.ps.osx = true ∧ s.cfg.osxRegRedirect = true ∧ s.ps.oax = false
    let compared := fun (a m : Word) (t : State) =>
      FlagsOfCompare W a m s t ∧ SameRegisters s t ∧ SameStackPointers s t ∧ SameMemory s t ∧ SameControl s t ∧
      Counted (operandReads s o W) 0 s t
    (dataForm i = some (.cmp, o) → ∃ t, exec i s = .next t ∧ t.ps = s.ps ∧
      compared (s.slot0 (s.rho .a)) (s.operandValue o W) t) ∧
    (dataForm i = some (.cpy, o) → ∃ t, exec i s = .next t ∧ t.ps = s.ps ∧
      compared (s.slot0 (s.rho .y)) (s.operandValue o W) t) ∧
    (dataForm i = some (.cpx, o) → ∃ t, exec i s = .next t ∧
      t.ps = { s.ps with lscx := s.ps.lscx || s.ps.osx } ∧
      (redirected → compared s.sp (u.operandValue o W) t) ∧
      (¬ redirected → compared (s.slot0 (s.rho .x)) (u.operandValue o W) t))

/-- 43_alu.md section 6: BIT sets Z from A AND operand; with a memory operand also N and V from the operand's two top
bits at width W; nothing else changes. -/
def Obligations.BitTest : Prop :=
  ∀ (i : Instr) (o : Operand) (s : State), s.conflict = false → dataForm i = some (.bit, o) →
    let W := s.width
    let m := s.operandValue o W
    let a := maskW W (s.slot0 (s.rho .a))
    ∃ t, exec i s = .next t ∧
      (match o with
        | .imm _ => getFlag .z t.p = decide (a &&& m = 0#16) ∧ SameFlagsBut [.z] s t
        | .mem _ => FlagsOfBitTest W a m s t) ∧
      SameRegisters s t ∧ SameStackPointers s t ∧ SameMemory s t ∧ SameControl s t ∧ t.ps = s.ps ∧
      Counted (operandReads s o W) 0 s t

/-! ## Read-modify-write -/

/-- 44_rmw_bit.md sections 1 to 3: the memory forms of ASL, LSR, ROL, ROR, INC and DEC replace the datum at the
operand's address with the exact result at width W, set N and Z, and C where the operation has a carry. -/
def Obligations.ShiftsOfMemory : Prop :=
  ∀ (i : Instr) (op : IppOp) (m : MemMode) (s : State), s.conflict = false → s.mem.wf = true →
    dataForm i = some (op, .mem m) → isShift op = true →
    let W := s.width
    let ea := s.effAddr m
    let v := (s.readMem ea W).toNat
    let c := getFlag .c s.p
    ∃ t, exec i s = .next t ∧ (t.readMem ea W).toNat = shiftedValue op W v c ∧
      getFlag .c t.p = shiftedCarry op W v c ∧ FlagsOfValue W (BitVec.ofNat 16 (shiftedValue op W v c)) [.c] s t ∧
      SameMemoryBut (bytesAt ea W) s t ∧ SameRegisters s t ∧ SameStackPointers s t ∧ SameControl s t ∧
      t.ps = s.ps ∧ Counted (s.pointerReads m + W.bytes) W.bytes s t

/-- 44_rmw_bit.md sections 1 to 3: the accumulator forms, and INX, INY, DEX and DEY, do the same to slot 0 of their
register under the exchange; LSR A is this under every PrefixState but ind with siz. -/
def Obligations.ShiftsOfRegisters : Prop :=
  ∀ (i : Instr) (op : IppOp) (r : RegName) (s : State), s.conflict = false → registerForm i = some (op, r) →
    (i = .lsrAcc → (s.ps.ind && s.ps.siz) = false) →
    let W := s.width
    let v := (maskW W (s.slot0 (s.rho r))).toNat
    let c := getFlag .c s.p
    let w := BitVec.ofNat 16 (shiftedValue op W v c)
    ∃ t, exec i s = .next t ∧ SlotHolds (s.rho r) W w s t ∧ getFlag .c t.p = shiftedCarry op W v c ∧
      FlagsOfValue W w [.c] s t ∧ SameRegistersBut (s.rho r) s t ∧ SameStackPointers s t ∧ t.mem = s.mem ∧
      SameControl s t ∧ t.ps = s.ps ∧ Counted 0 0 s t

/-- 44_rmw_bit.md section 2: ASR, and LSR A under ind and siz, halve the signed word in A under the exchange, rounding
down (under ASR_FILL = nXorV the bit shifted in is N xor V); C is the bit shifted out. -/
def Obligations.ArithmeticShift : Prop :=
  ∀ (i : Instr) (s : State), s.conflict = false →
    (i = .asr ∨ i = .lsrAcc ∧ s.ps.ind = true ∧ s.ps.siz = true) →
    let v := s.slot0 (s.rho .a)
    ∃ t, exec i s = .next t ∧
      (match s.cfg.asrFill with
        | .sign => (t.slot0 (s.rho .a)).toInt = v.toInt / 2
        | .nXorV => (t.slot0 (s.rho .a)).toNat = v.toNat / 2 + (getFlag .n s.p ^^ getFlag .v s.p).toNat * 32768) ∧
      getFlag .c t.p = decide (v.toNat % 2 = 1) ∧ FlagsOfValue .word (t.slot0 (s.rho .a)) [.c] s t ∧
      SameRegistersBut (s.rho .a) s t ∧ SameStackPointers s t ∧ t.mem = s.mem ∧ SameControl s t ∧ t.ps = s.ps ∧
      Counted 0 0 s t

/-- 44_rmw_bit.md section 4: TSB sets and TRB clears in the memory operand the bits that A under the exchange has set;
Z is that the operand and A shared none; nothing else changes. -/
def Obligations.TestAndModify : Prop :=
  ∀ (i : Instr) (m : MemMode) (set : Bool) (s : State), s.conflict = false → s.mem.wf = true →
    (dataForm i = some (.tsb, .mem m) ∧ set = true ∨ dataForm i = some (.trb, .mem m) ∧ set = false) →
    let W := s.width
    let ea := s.effAddr m
    let a := maskW W (s.slot0 (s.rho .a))
    ∃ t, exec i s = .next t ∧
      (∀ k, (t.readMem ea W).getLsbD k = if a.getLsbD k then set else (s.readMem ea W).getLsbD k) ∧
      getFlag .z t.p = decide (a &&& s.readMem ea W = 0#16) ∧ SameFlagsBut [.z] s t ∧
      SameMemoryBut (bytesAt ea W) s t ∧ SameRegisters s t ∧ SameStackPointers s t ∧ SameControl s t ∧
      t.ps = s.ps ∧ Counted (s.pointerReads m + W.bytes) W.bytes s t

/-- 44_rmw_bit.md section 5: RMBn clears and SMBn sets bit n of the byte at the operand's address, whatever siz, oax and
oay are, and changes no other bit, byte, register or flag. -/
def Obligations.MemoryBits : Prop :=
  ∀ (i : Instr) (m : MemMode) (n : Fin 8) (b : Bool) (s : State), s.mem.wf = true →
    (dataForm i = some (.rmb n, .mem m) ∧ b = false ∨ dataForm i = some (.smb n, .mem m) ∧ b = true) →
    let ea := s.effAddr m
    ∃ t, exec i s = .next t ∧
      (∀ k, k < 8 → (t.readByte ea.addr).getLsbD k = if k = n.val then b else (s.readByte ea.addr).getLsbD k) ∧
      SameMemoryBut [ea.addr] s t ∧ t.p = s.p ∧ SameRegisters s t ∧ SameStackPointers s t ∧ SameControl s t ∧
      t.ps = s.ps ∧ Counted (s.pointerReads m + 1) 1 s t

/-- 44_rmw_bit.md section 5: BBRn and BBSn read one byte at the zp operand's address and go to the target, the offset
past the instruction, where bit n is clear or set; else on; nothing else changes. -/
def Obligations.BitBranches : Prop :=
  ∀ (i : Instr) (n : Fin 8) (b : Bool) (z r : Byte) (s : State), bitBranchForm i = some (n, b, z, r) →
    exec i s = .next { s with
      pc :=
        if (s.readByte (s.effAddr (.zp z)).addr).getLsbD n.val = b then BitVec.ofInt 16 (s.pc.toNat + r.toInt)
        else s.pc
      counters := { s.counters with dataReads := s.counters.dataReads + s.pointerReads (.zp z) + 1 } }

/-! ## Stack -/

/-- 45_stack.md section 1, 10_state.md R25: below 512 a stack pointer moves within its page, from 512 on through the
whole space; the active one is SP[P.M]. -/
def Obligations.StackPointerMoves : Prop :=
  (∀ s : State, s.sp = if getFlag .m s.p then s.spKernel else s.spUser) ∧
  ∀ p : Word,
    (p.toNat < 512 →
      (sDec p).toNat = p.toNat / 256 * 256 + (p.toNat + 255) % 256 ∧
      (sInc p).toNat = p.toNat / 256 * 256 + (p.toNat + 1) % 256) ∧
    (512 ≤ p.toNat → (sDec p).toNat = p.toNat - 1 ∧ (sInc p).toNat = (p.toNat + 1) % 65536)

/-- 45_stack.md sections 1 and 2: PHA, PHX, PHY at width W, PHP and PHI push on the active stack: a word's high byte at
S and its low byte below, S ending below the last byte; nothing else changes but memory there. -/
def Obligations.Pushes : Prop :=
  ∀ s : State, s.mem.wf = true →
    let frame := fun (n : Nat) (l : List Word) (t : State) =>
      SameMemoryBut l s t ∧ t.p = s.p ∧ SameInactivePointer s t ∧ SameRegisters s t ∧ SameControl s t ∧
      t.ps = s.ps ∧ Counted 0 n s t
    let pushedByte := fun (b : Byte) (t : State) =>
      t.readByte s.sp = b ∧ t.sp = sDec s.sp ∧ frame 1 [s.sp] t
    let pushedWord := fun (w : Word) (t : State) =>
      t.readByte s.sp = hiByte w ∧ t.readByte (sDec s.sp) = loByte w ∧ t.sp = sDec (sDec s.sp) ∧
      frame 2 [s.sp, sDec s.sp] t
    (∀ (i : Instr) (r : RegName), pushForm i = some r → s.conflict = false →
      ∃ t, exec i s = .next t ∧
        (s.width = .byte → pushedByte (loByte (s.slot0 (s.rho r))) t) ∧
        (s.width = .word → pushedWord (s.slot0 (s.rho r)) t)) ∧
    (∃ t, exec .php s = .next t ∧ pushedByte (s.p ||| 0x10#8) t) ∧
    (∃ t, exec .phi s = .next t ∧ pushedWord s.ip t)

/-- 45_stack.md sections 1 and 3: PLA, PLX and PLY pull a value of width W, low byte first, into slot 0 of their
register under the exchange and set N and Z; PLP pulls P, with BREAK set and MODE unchanged; nothing else changes. -/
def Obligations.Pulls : Prop :=
  ∀ s : State,
    let k1 := sInc s.sp
    let k2 := sInc k1
    (∀ (i : Instr) (r : RegName), pullForm i = some r → s.conflict = false →
      let W := s.width
      let v := match W with
        | .byte => zext (s.readByte k1)
        | .word => mkWord (s.readByte k2) (s.readByte k1)
      ∃ t, exec i s = .next t ∧ SlotHolds (s.rho r) W v s t ∧ FlagsOfValue W v [] s t ∧
        t.sp = (match W with | .byte => k1 | .word => k2) ∧ SameInactivePointer s t ∧
        SameRegistersBut (s.rho r) s t ∧ t.mem = s.mem ∧ SameControl s t ∧ t.ps = s.ps ∧ Counted W.bytes 0 s t) ∧
    (∃ t, exec .plp s = .next t ∧ getFlag .m t.p = getFlag .m s.p ∧ getFlag .b t.p = true ∧
      (∀ f, f ≠ .m → f ≠ .b → getFlag f t.p = getFlag f (s.readByte k1)) ∧ t.sp = k1 ∧ SameInactivePointer s t ∧
      SameRegisters s t ∧ t.mem = s.mem ∧ SameControl s t ∧ t.ps = s.ps ∧ Counted 1 0 s t)

/-- 45_stack.md section 4: DUP, SWP and ROT move the three slots of one register stack, X under oax, Y under oay, else
A, and change nothing else. -/
def Obligations.StackMoves : Prop :=
  ∀ (i : Instr) (s : State) (r : RegStack), s.conflict = false →
    let q : RegName := if s.ps.oax then .x else if s.ps.oay then .y else .a
    movedSlots i (s.stack q) = some r →
    ∃ t, exec i s = .next t ∧ t.stack q = r ∧ (∀ q', q' ≠ q → t.stack q' = s.stack q') ∧ SameStackPointers s t ∧
      t.p = s.p ∧ t.mem = s.mem ∧ SameControl s t ∧ t.ps = s.ps ∧ t.counters = s.counters

/-! ## Control -/

/-- 46_control.md R340: a branch whose condition holds goes to its target, PC being the byte after the instruction, else
stays there; it changes no flag, no memory, nothing else. -/
def Obligations.BranchesGoToTheirTarget : Prop :=
  ∀ (i : Instr) (cond : Option (Flag × Bool)) (d : Int) (s : State),
    ((∃ r, relForm i = some (cond, r) ∧ d = r.toInt) ∨ (∃ r, rel16Form i = some (cond, r) ∧ d = r.toInt)) →
    exec i s = .next { s with
      pc :=
        match cond with
        | none => BitVec.ofInt 16 (s.pc.toNat + d)
        | some (f, v) => if getFlag f s.p = v then BitVec.ofInt 16 (s.pc.toNat + d) else s.pc }

/-- 46_control.md section 2: JMP abs goes to its operand, or under ind to the word it points to, whatever osx is;
JMP absI and absXI go to the address of their operand; nothing else changes. -/
def Obligations.JumpsSetPc : Prop :=
  ∀ (s : State) (a : Word),
    let reads := fun n : Nat => { s.counters with dataReads := s.counters.dataReads + n }
    exec (.jmpAbs a) s = .next { s with
      pc := if s.ps.ind then s.readWord ⟨a, .full⟩ else a
      counters := reads (if s.ps.ind then 2 else 0) } ∧
    exec (.jmpAbsI a) s = .next { s with
      pc := (s.effAddr (.absI a)).addr
      counters := reads (s.pointerReads (.absI a)) } ∧
    (s.conflict = false → exec (.jmpAbsXI a) s = .next { s with
      pc := (s.effAddr (.absXI a)).addr
      counters := reads (s.pointerReads (.absXI a)) })

/-- 46_control.md section 2: JSR pushes the address of its own last byte and goes where JMP abs would; RTS pulls an
address and goes one past it. -/
def Obligations.CallAndReturn : Prop :=
  ∀ (s : State) (a : Word), s.mem.wf = true →
    (∃ t, exec (.jsr a) s = .next t ∧ t.pc = (if s.ps.ind then s.readWord ⟨a, .full⟩ else a) ∧
      t.readByte s.sp = hiByte (s.pc - 1#16) ∧ t.readByte (sDec s.sp) = loByte (s.pc - 1#16) ∧
      t.sp = sDec (sDec s.sp) ∧ SameMemoryBut [s.sp, sDec s.sp] s t ∧ t.p = s.p ∧ SameInactivePointer s t ∧
      SameRegisters s t ∧ SameBackground s t ∧ t.ps = s.ps ∧ Counted (if s.ps.ind then 2 else 0) 2 s t) ∧
    (∃ t, exec .rts s = .next t ∧
      t.pc = mkWord (s.readByte (sInc (sInc s.sp))) (s.readByte (sInc s.sp)) + 1#16 ∧ t.sp = sInc (sInc s.sp) ∧
      t.mem = s.mem ∧ t.p = s.p ∧ SameInactivePointer s t ∧ SameRegisters s t ∧ SameBackground s t ∧
      t.ps = s.ps ∧ Counted 2 0 s t)

/-- 46_control.md section 2, 45_stack.md section 1: RTS right after JSR goes back past the JSR and restores both stack
pointers, unless the two pushes cross the 512 threshold. -/
def Obligations.ReturnUndoesTheCall : Prop :=
  ∀ (s : State) (a : Word), s.mem.wf = true → (s.sp.toNat < 512 ∨ 514 ≤ s.sp.toNat) →
    ∃ t u, exec (.jsr a) s = .next t ∧ exec .rts t = .next u ∧ u.pc = s.pc ∧ SameStackPointers s u ∧ u.p = s.p ∧
      SameRegisters s u ∧ SameBackground s u ∧ SameMemoryBut [s.sp, sDec s.sp] s u

/-- 46_control.md sections 3 and 4: CLC, SEC, CLI, SEI, CLV, CLD and SED give one flag their value; NOP changes
nothing. The flags are the bits of P that 10_state.md R32 places them in (decision D4). -/
def Obligations.FlagInstructionsAndNop : Prop :=
  (∀ (i : Instr) (f : Flag) (v : Bool) (s : State), flagForm i = some (f, v) →
    ∃ p, exec i s = .next { s with p := p } ∧ getFlag f p = v ∧ ∀ g, g ≠ f → getFlag g p = getFlag g s.p) ∧
  (∀ s : State, exec .nop s = .next s) ∧
  ∀ p : Byte,
    getFlag .n p = p.getLsbD 7 ∧ getFlag .v p = p.getLsbD 6 ∧ getFlag .m p = p.getLsbD 5 ∧
    getFlag .b p = p.getLsbD 4 ∧ getFlag .d p = p.getLsbD 3 ∧ getFlag .i p = p.getLsbD 2 ∧
    getFlag .z p = p.getLsbD 1 ∧ getFlag .c p = p.getLsbD 0

/-! ## The Forth machine -/

/-- 47_forth_vm.md section 2: NXT goes through the word at IP; ENT pushes IP and goes through the word at WP; PLI pulls
IP; INI moves IP by W/8; nothing else changes. -/
def Obligations.ForthInstructions : Prop :=
  ∀ s : State,
    let next := fun (u : State) (ip : Word) (t : State) =>
      let w := u.readWord ⟨ip, .full⟩
      t.ip = ip + 2#16 ∧ t.pc = u.readWord ⟨w, .full⟩ ∧ t.wp = w + 2#16
    let same := fun t : State =>
      t.p = s.p ∧ SameInactivePointer s t ∧ SameRegisters s t ∧ t.nmiPending = s.nmiPending ∧ t.irq = s.irq ∧
      t.cfg = s.cfg ∧ t.ps = s.ps
    (∃ t, exec .nxt s = .next t ∧ next s s.ip t ∧ same t ∧ t.sp = s.sp ∧ t.mem = s.mem ∧ Counted 4 0 s t) ∧
    (s.mem.wf = true → ∃ t, exec .ent s = .next t ∧ next t s.wp t ∧ same t ∧ t.sp = sDec (sDec s.sp) ∧
      t.readByte s.sp = hiByte s.ip ∧ t.readByte (sDec s.sp) = loByte s.ip ∧
      SameMemoryBut [s.sp, sDec s.sp] s t ∧ Counted 4 2 s t) ∧
    (∃ t, exec .pli s = .next t ∧
      t.ip = mkWord (s.readByte (sInc (sInc s.sp))) (s.readByte (sInc s.sp)) ∧ t.wp = s.wp ∧ t.pc = s.pc ∧ same t ∧
      t.sp = sInc (sInc s.sp) ∧ t.mem = s.mem ∧ Counted 2 0 s t) ∧
    exec .ini s = .next { s with ip := s.ip + BitVec.ofNat 16 s.width.bytes }
end

