-- ==== Sys2Proof/Laws/Bits.lean ====
section
/-! SUPPORT. What the bit-field helpers compute, once each: words from bytes, page-confined addition, the operation
width. -/

namespace Sys2Proof

theorem loByte_toNat (v : Word) : (loByte v).toNat = v.toNat % 256 := by simp [loByte]

theorem hiByte_toNat (v : Word) : (hiByte v).toNat = v.toNat / 256 := by
  have := v.isLt
  simp only [hiByte, BitVec.toNat_setWidth, BitVec.toNat_ushiftRight, Nat.shiftRight_eq_div_pow]
  omega

theorem zext_toNat (b : Byte) : (zext b).toNat = b.toNat := by
  have := b.isLt
  simp only [zext, BitVec.toNat_setWidth]
  omega

theorem mkWord_toNat (hi lo : Byte) : (mkWord hi lo).toNat = hi.toNat * 256 + lo.toNat := by
  have := lo.isLt
  rw [mkWord, BitVec.toNat_append, ← Nat.shiftLeft_add_eq_or_of_lt this, Nat.shiftLeft_eq]

@[simp] theorem mkWord_hiByte_loByte (v : Word) : mkWord (hiByte v) (loByte v) = v := by
  apply BitVec.eq_of_toNat_eq
  rw [mkWord_toNat, hiByte_toNat, loByte_toNat]
  omega

@[simp] theorem loByte_mkWord (hi lo : Byte) : loByte (mkWord hi lo) = lo := by
  have := lo.isLt
  apply BitVec.eq_of_toNat_eq
  rw [loByte_toNat, mkWord_toNat]
  omega

@[simp] theorem hiByte_mkWord (hi lo : Byte) : hiByte (mkWord hi lo) = hi := by
  have := lo.isLt
  apply BitVec.eq_of_toNat_eq
  rw [hiByte_toNat, mkWord_toNat]
  omega

@[simp] theorem loByte_zext (b : Byte) : loByte (zext b) = b := by
  have := b.isLt
  apply BitVec.eq_of_toNat_eq
  rw [loByte_toNat, zext_toNat]
  omega

@[simp] theorem hiByte_zext (b : Byte) : hiByte (zext b) = 0#8 := by
  have := b.isLt
  apply BitVec.eq_of_toNat_eq
  rw [hiByte_toNat, zext_toNat]
  show b.toNat / 256 = 0
  omega

/-- A byte-wide value that fits a byte is its own low byte. -/
theorem zext_loByte_of_lt {v : Word} (h : v.toNat < 256) : zext (loByte v) = v := by
  apply BitVec.eq_of_toNat_eq
  rw [zext_toNat, loByte_toNat]
  omega

/-- The low W bits of a value. -/
theorem maskW_toNat (W : Width) (v : Word) : (maskW W v).toNat = v.toNat % 2 ^ W.bits := by
  cases W with
  | byte => exact (zext_toNat _).trans (loByte_toNat v)
  | word => exact (Nat.mod_eq_of_lt v.isLt).symm

theorem maskW_toNat_lt (W : Width) (v : Word) : (maskW W v).toNat < 2 ^ W.bits := by
  rw [maskW_toNat]
  exact Nat.mod_lt _ (Nat.two_pow_pos _)

/-- Masking keeps a value that fits. -/
theorem maskW_of_lt {W : Width} {v : Word} (h : v.toNat < 2 ^ W.bits) : maskW W v = v := by
  apply BitVec.eq_of_toNat_eq
  rw [maskW_toNat, Nat.mod_eq_of_lt h]

@[simp] theorem maskW_maskW (W : Width) (v : Word) : maskW W (maskW W v) = maskW W v :=
  maskW_of_lt (maskW_toNat_lt W v)

@[simp] theorem loByte_maskW (W : Width) (v : Word) : loByte (maskW W v) = loByte v := by
  cases W <;> simp [maskW]

/-- The sign bit of a value of width W. -/
theorem msbW_eq (W : Width) (v : Word) : msbW W v = decide (v.toNat / 2 ^ (W.bits - 1) % 2 = 1) := by
  simp [msbW, BitVec.getLsbD, Nat.testBit_eq_decide_div_mod_eq]

/-- Masking keeps the sign bit. -/
@[simp] theorem msbW_maskW (W : Width) (v : Word) : msbW W (maskW W v) = msbW W v := by
  cases W with
  | word => rfl
  | byte =>
    rw [msbW_eq, msbW_eq, maskW_toNat, decide_eq_decide]
    simp only [Width.bits]
    omega

theorem and_ff00_toNat (b : BitVec 16) : (b &&& 0xFF00#16).toNat = b.toNat / 256 * 256 := by
  have h : b &&& 0xFF00#16 = (b >>> 8) <<< 8 := by
    apply BitVec.eq_of_getLsbD_eq
    intro i hi
    have hc : (0xFF00#16).getLsbD i = (decide (8 ≤ i) && decide (i < 16)) := by
      revert i
      decide
    rw [BitVec.getLsbD_and, hc, BitVec.getLsbD_shiftLeft, BitVec.getLsbD_ushiftRight]
    by_cases h8 : 8 ≤ i
    · have : 8 + (i - 8) = i := by omega
      simp [h8, hi, this, show ¬ i < 8 by omega]
    · simp [h8, show i < 8 by omega]
  have := b.isLt
  rw [h, BitVec.toNat_shiftLeft, BitVec.toNat_ushiftRight, Nat.shiftRight_eq_div_pow, Nat.shiftLeft_eq]
  omega

theorem and_00ff_toNat (b : BitVec 16) : (b &&& 0x00FF#16).toNat = b.toNat % 256 := by
  have h : (0x00FF#16).toNat = 2 ^ 8 - 1 := by decide
  rw [BitVec.toNat_and, h, Nat.and_two_pow_sub_one_eq_mod]

/-- Page-confined addition: the page of the base, the low byte of the sum. -/
theorem pageAdd_toNat (b o : Word) :
    (pageAdd b o).toNat = b.toNat / 256 * 256 + (b.toNat + o.toNat) % 256 := by
  have hadd : (b + o).toNat = (b.toNat + o.toNat) % 65536 := BitVec.toNat_add b o
  have hlow : (b + o).toNat % 256 < 2 ^ 8 := Nat.mod_lt _ (by decide)
  have hpage : (b &&& 0xFF00#16).toNat = (b.toNat / 256) <<< 8 := by
    rw [and_ff00_toNat, Nat.shiftLeft_eq]
  rw [pageAdd, BitVec.toNat_or, hpage, and_00ff_toNat, ← Nat.shiftLeft_add_eq_or_of_lt hlow, Nat.shiftLeft_eq, hadd]
  omega

end Sys2Proof

namespace Sys2Proof.Machine

/-- The value has no set bit below W exactly when it is 0 modulo 2^W. -/
theorem maskW_eq_zero (W : Width) (v : Word) : maskW W v = 0#16 ↔ v.toNat % 2 ^ W.bits = 0 := by
  rw [← BitVec.toNat_inj, maskW_toNat]
  simp

end Sys2Proof.Machine
end

