-- ==== Sys2Proof/Laws/Memory.lean ====
section
/-! SUPPORT. Memory: a write gives the byte back, leaves every other byte, and keeps the canonical form. -/

namespace Sys2Proof.Machine

@[simp] theorem Memory.read_nil (a : Nat) : Memory.read [] a = Memory.unlisted := rfl

@[simp] theorem Memory.read_cons (b : Nat) (v : Byte) (m : Memory) (a : Nat) :
    Memory.read ((b, v) :: m) a = if b = a then v else Memory.read m a := rfl

theorem Memory.read_cell_append (a : Nat) (v : Byte) (m : Memory) (b : Nat) (h : b ≠ a) :
    Memory.read (Memory.cell a v ++ m) b = Memory.read m b := by
  unfold Memory.cell
  split
  · rfl
  · simp [Ne.symm h]

/-- Every address below the first admitted one reads as unlisted. -/
theorem Memory.read_of_wfFrom_lt (m : Memory) : ∀ (lo a : Nat), Memory.wfFrom lo m = true → a < lo →
    Memory.read m a = Memory.unlisted := by
  induction m with
  | nil => intros; rfl
  | cons c m ih =>
    obtain ⟨b, v⟩ := c
    intro lo a h ha
    simp only [Memory.wfFrom, Bool.and_eq_true, decide_eq_true_eq] at h
    rw [Memory.read_cons, if_neg (by omega)]
    exact ih (b + 1) a h.2 (by omega)

theorem Memory.read_cell_append_self (a : Nat) (v : Byte) (m : Memory)
    (h : Memory.read m a = Memory.unlisted) : Memory.read (Memory.cell a v ++ m) a = v := by
  unfold Memory.cell
  split
  · rename_i hv; rw [hv]; simpa using h
  · simp

theorem Memory.wfFrom_mono (m : Memory) {lo lo' : Nat} (h : Memory.wfFrom lo' m = true) (hl : lo ≤ lo') :
    Memory.wfFrom lo m = true := by
  cases m with
  | nil => rfl
  | cons c m =>
    obtain ⟨b, v⟩ := c
    simp only [Memory.wfFrom, Bool.and_eq_true, decide_eq_true_eq] at h ⊢
    exact ⟨⟨⟨by omega, h.1.1.2⟩, h.1.2⟩, h.2⟩

theorem Memory.wfFrom_cell_append (m : Memory) (lo a : Nat) (v : Byte) (hlo : lo ≤ a) (ha : a < 65536)
    (h : Memory.wfFrom (a + 1) m = true) : Memory.wfFrom lo (Memory.cell a v ++ m) = true := by
  unfold Memory.cell
  split
  · exact Memory.wfFrom_mono m h (by omega)
  · rename_i hv
    simp [Memory.wfFrom, hlo, ha, h, hv]

theorem Memory.wfFrom_write (m : Memory) (v : Byte) : ∀ (lo a : Nat), Memory.wfFrom lo m = true → lo ≤ a →
    a < 65536 → Memory.wfFrom lo (Memory.write m a v) = true := by
  induction m with
  | nil =>
    intro lo a _ hlo ha
    simpa [Memory.write] using Memory.wfFrom_cell_append [] lo a v hlo ha rfl
  | cons c m ih =>
    obtain ⟨b, w⟩ := c
    intro lo a h hlo ha
    have h' := h
    simp only [Memory.wfFrom, Bool.and_eq_true, decide_eq_true_eq] at h
    unfold Memory.write
    split
    · refine Memory.wfFrom_cell_append _ lo a v hlo ha ?_
      simp only [Memory.wfFrom, Bool.and_eq_true, decide_eq_true_eq]
      exact ⟨⟨⟨by omega, h.1.1.2⟩, h.1.2⟩, h.2⟩
    · split
      · subst a
        exact Memory.wfFrom_cell_append _ lo b v hlo ha h.2
      · simp only [Memory.wfFrom, Bool.and_eq_true, decide_eq_true_eq]
        exact ⟨h.1, ih (b + 1) a h.2 (by omega) ha⟩

/-- A write keeps memory in canonical form. -/
theorem Memory.wf_write (m : Memory) (a : Nat) (v : Byte) (h : Memory.wf m = true) (ha : a < 65536) :
    Memory.wf (Memory.write m a v) = true :=
  Memory.wfFrom_write m v 0 a h (Nat.zero_le a) ha

/-- A write leaves every other address. -/
theorem Memory.read_write_of_ne (m : Memory) (a : Nat) (v : Byte) (b : Nat) (h : b ≠ a) :
    Memory.read (Memory.write m a v) b = Memory.read m b := by
  induction m with
  | nil =>
    have := Memory.read_cell_append a v [] b h
    simpa [Memory.write] using this
  | cons c m ih =>
    obtain ⟨d, w⟩ := c
    unfold Memory.write
    split
    · exact Memory.read_cell_append a v _ b h
    · split
      · rename_i hd
        subst hd
        rw [Memory.read_cell_append a v m b h, Memory.read_cons, if_neg (Ne.symm h)]
      · simp [ih]

theorem Memory.read_write_same_from (m : Memory) (v : Byte) : ∀ (lo a : Nat), Memory.wfFrom lo m = true →
    Memory.read (Memory.write m a v) a = v := by
  induction m with
  | nil =>
    intro lo a _
    simpa [Memory.write] using Memory.read_cell_append_self a v [] rfl
  | cons c m ih =>
    obtain ⟨b, w⟩ := c
    intro lo a h
    simp only [Memory.wfFrom, Bool.and_eq_true, decide_eq_true_eq] at h
    unfold Memory.write
    split
    · refine Memory.read_cell_append_self a v _ ?_
      rw [Memory.read_cons, if_neg (by omega)]
      exact Memory.read_of_wfFrom_lt m (b + 1) a h.2 (by omega)
    · split
      · subst a
        exact Memory.read_cell_append_self b v m (Memory.read_of_wfFrom_lt m (b + 1) b h.2 (by omega))
      · rename_i hab
        rw [Memory.read_cons, if_neg (fun e => hab e.symm)]
        exact ih (b + 1) a h.2

/-- A write is read back. -/
theorem Memory.read_write_same (m : Memory) (a : Nat) (v : Byte) (h : Memory.wf m = true) :
    Memory.read (Memory.write m a v) a = v :=
  Memory.read_write_same_from m v 0 a h

/-- Memories in canonical form that read the same everywhere are equal data. -/
theorem Memory.eq_of_read_eq_from (m : Memory) : ∀ (n : Memory) (lo : Nat), Memory.wfFrom lo m = true →
    Memory.wfFrom lo n = true → (∀ a, Memory.read m a = Memory.read n a) → m = n := by
  induction m with
  | nil =>
    intro n lo _ hn h
    cases n with
    | nil => rfl
    | cons c n =>
      obtain ⟨b, v⟩ := c
      have := h b
      simp only [Memory.wfFrom, Bool.and_eq_true, decide_eq_true_eq, bne_iff_ne] at hn
      simp at this
      exact absurd this.symm hn.1.2
  | cons c m ih =>
    obtain ⟨b, v⟩ := c
    intro n lo hm hn h
    simp only [Memory.wfFrom, Bool.and_eq_true, decide_eq_true_eq, bne_iff_ne] at hm
    cases n with
    | nil =>
      have := h b
      simp at this
      exact absurd this hm.1.2
    | cons d n =>
      obtain ⟨e, w⟩ := d
      simp only [Memory.wfFrom, Bool.and_eq_true, decide_eq_true_eq, bne_iff_ne] at hn
      have hb := h b
      have he := h e
      simp only [Memory.read_cons, if_true] at hb he
      have hbe : b = e := by
        rcases Nat.lt_trichotomy b e with hlt | heq | hlt
        · rw [if_neg (by omega), Memory.read_of_wfFrom_lt n (e + 1) b hn.2 (by omega)] at hb
          exact absurd hb hm.1.2
        · exact heq
        · rw [if_neg (by omega), Memory.read_of_wfFrom_lt m (b + 1) e hm.2 (by omega)] at he
          exact absurd he.symm hn.1.2
      subst hbe
      simp only [if_true] at hb
      subst hb
      have := ih n (b + 1) hm.2 hn.2 (fun a => by
        have ha := h a
        simp only [Memory.read_cons] at ha
        by_cases hab : b = a
        · subst hab
          rw [Memory.read_of_wfFrom_lt m (b + 1) b hm.2 (by omega), Memory.read_of_wfFrom_lt n (b + 1) b hn.2 (by omega)]
        · simpa [hab] using ha)
      rw [this]

/-- Equal contents are equal data. -/
theorem Memory.eq_of_read_eq (m n : Memory) (hm : Memory.wf m = true) (hn : Memory.wf n = true)
    (h : ∀ a, Memory.read m a = Memory.read n a) : m = n :=
  Memory.eq_of_read_eq_from m n 0 hm hn h

end Sys2Proof.Machine
end

