-- ==== Sys2Proof/Laws/State.lean ====
section
/-! SUPPORT. One lemma per field per update of the state, so that no proof unfolds a record update. -/

namespace Sys2Proof.Machine

@[simp] theorem State.countReads_a (n : Nat) (s : State) : (s.countReads n).a = s.a := rfl
@[simp] theorem State.countReads_x (n : Nat) (s : State) : (s.countReads n).x = s.x := rfl
@[simp] theorem State.countReads_y (n : Nat) (s : State) : (s.countReads n).y = s.y := rfl
@[simp] theorem State.countReads_spUser (n : Nat) (s : State) : (s.countReads n).spUser = s.spUser := rfl
@[simp] theorem State.countReads_spKernel (n : Nat) (s : State) : (s.countReads n).spKernel = s.spKernel := rfl
@[simp] theorem State.countReads_pc (n : Nat) (s : State) : (s.countReads n).pc = s.pc := rfl
@[simp] theorem State.countReads_p (n : Nat) (s : State) : (s.countReads n).p = s.p := rfl
@[simp] theorem State.countReads_ip (n : Nat) (s : State) : (s.countReads n).ip = s.ip := rfl
@[simp] theorem State.countReads_wp (n : Nat) (s : State) : (s.countReads n).wp = s.wp := rfl
@[simp] theorem State.countReads_ps (n : Nat) (s : State) : (s.countReads n).ps = s.ps := rfl
@[simp] theorem State.countReads_nmiPending (n : Nat) (s : State) : (s.countReads n).nmiPending = s.nmiPending := rfl
@[simp] theorem State.countReads_irq (n : Nat) (s : State) : (s.countReads n).irq = s.irq := rfl
@[simp] theorem State.countReads_counters (n : Nat) (s : State) : (s.countReads n).counters = { s.counters with dataReads := s.counters.dataReads + n } := rfl
@[simp] theorem State.countReads_mem (n : Nat) (s : State) : (s.countReads n).mem = s.mem := rfl
@[simp] theorem State.countReads_cfg (n : Nat) (s : State) : (s.countReads n).cfg = s.cfg := rfl

@[simp] theorem State.writeByte_a (a : Word) (v : Byte) (s : State) : (s.writeByte a v).a = s.a := rfl
@[simp] theorem State.writeByte_x (a : Word) (v : Byte) (s : State) : (s.writeByte a v).x = s.x := rfl
@[simp] theorem State.writeByte_y (a : Word) (v : Byte) (s : State) : (s.writeByte a v).y = s.y := rfl
@[simp] theorem State.writeByte_spUser (a : Word) (v : Byte) (s : State) : (s.writeByte a v).spUser = s.spUser := rfl
@[simp] theorem State.writeByte_spKernel (a : Word) (v : Byte) (s : State) : (s.writeByte a v).spKernel = s.spKernel := rfl
@[simp] theorem State.writeByte_pc (a : Word) (v : Byte) (s : State) : (s.writeByte a v).pc = s.pc := rfl
@[simp] theorem State.writeByte_p (a : Word) (v : Byte) (s : State) : (s.writeByte a v).p = s.p := rfl
@[simp] theorem State.writeByte_ip (a : Word) (v : Byte) (s : State) : (s.writeByte a v).ip = s.ip := rfl
@[simp] theorem State.writeByte_wp (a : Word) (v : Byte) (s : State) : (s.writeByte a v).wp = s.wp := rfl
@[simp] theorem State.writeByte_ps (a : Word) (v : Byte) (s : State) : (s.writeByte a v).ps = s.ps := rfl
@[simp] theorem State.writeByte_nmiPending (a : Word) (v : Byte) (s : State) : (s.writeByte a v).nmiPending = s.nmiPending := rfl
@[simp] theorem State.writeByte_irq (a : Word) (v : Byte) (s : State) : (s.writeByte a v).irq = s.irq := rfl
@[simp] theorem State.writeByte_counters (a : Word) (v : Byte) (s : State) : (s.writeByte a v).counters = { s.counters with dataWrites := s.counters.dataWrites + 1 } := rfl
@[simp] theorem State.writeByte_mem (a : Word) (v : Byte) (s : State) : (s.writeByte a v).mem = s.mem.write a.toNat v := rfl
@[simp] theorem State.writeByte_cfg (a : Word) (v : Byte) (s : State) : (s.writeByte a v).cfg = s.cfg := rfl

@[simp] theorem State.mapP_a (f : Byte → Byte) (s : State) : (s.mapP f).a = s.a := rfl
@[simp] theorem State.mapP_x (f : Byte → Byte) (s : State) : (s.mapP f).x = s.x := rfl
@[simp] theorem State.mapP_y (f : Byte → Byte) (s : State) : (s.mapP f).y = s.y := rfl
@[simp] theorem State.mapP_spUser (f : Byte → Byte) (s : State) : (s.mapP f).spUser = s.spUser := rfl
@[simp] theorem State.mapP_spKernel (f : Byte → Byte) (s : State) : (s.mapP f).spKernel = s.spKernel := rfl
@[simp] theorem State.mapP_pc (f : Byte → Byte) (s : State) : (s.mapP f).pc = s.pc := rfl
@[simp] theorem State.mapP_p (f : Byte → Byte) (s : State) : (s.mapP f).p = f s.p := rfl
@[simp] theorem State.mapP_ip (f : Byte → Byte) (s : State) : (s.mapP f).ip = s.ip := rfl
@[simp] theorem State.mapP_wp (f : Byte → Byte) (s : State) : (s.mapP f).wp = s.wp := rfl
@[simp] theorem State.mapP_ps (f : Byte → Byte) (s : State) : (s.mapP f).ps = s.ps := rfl
@[simp] theorem State.mapP_nmiPending (f : Byte → Byte) (s : State) : (s.mapP f).nmiPending = s.nmiPending := rfl
@[simp] theorem State.mapP_irq (f : Byte → Byte) (s : State) : (s.mapP f).irq = s.irq := rfl
@[simp] theorem State.mapP_counters (f : Byte → Byte) (s : State) : (s.mapP f).counters = s.counters := rfl
@[simp] theorem State.mapP_mem (f : Byte → Byte) (s : State) : (s.mapP f).mem = s.mem := rfl
@[simp] theorem State.mapP_cfg (f : Byte → Byte) (s : State) : (s.mapP f).cfg = s.cfg := rfl

@[simp] theorem State.setP_a (f : Flag) (v : Bool) (s : State) : (s.setP f v).a = s.a := rfl
@[simp] theorem State.setP_x (f : Flag) (v : Bool) (s : State) : (s.setP f v).x = s.x := rfl
@[simp] theorem State.setP_y (f : Flag) (v : Bool) (s : State) : (s.setP f v).y = s.y := rfl
@[simp] theorem State.setP_spUser (f : Flag) (v : Bool) (s : State) : (s.setP f v).spUser = s.spUser := rfl
@[simp] theorem State.setP_spKernel (f : Flag) (v : Bool) (s : State) : (s.setP f v).spKernel = s.spKernel := rfl
@[simp] theorem State.setP_pc (f : Flag) (v : Bool) (s : State) : (s.setP f v).pc = s.pc := rfl
@[simp] theorem State.setP_p (f : Flag) (v : Bool) (s : State) : (s.setP f v).p = setFlag f v s.p := rfl
@[simp] theorem State.setP_ip (f : Flag) (v : Bool) (s : State) : (s.setP f v).ip = s.ip := rfl
@[simp] theorem State.setP_wp (f : Flag) (v : Bool) (s : State) : (s.setP f v).wp = s.wp := rfl
@[simp] theorem State.setP_ps (f : Flag) (v : Bool) (s : State) : (s.setP f v).ps = s.ps := rfl
@[simp] theorem State.setP_nmiPending (f : Flag) (v : Bool) (s : State) : (s.setP f v).nmiPending = s.nmiPending := rfl
@[simp] theorem State.setP_irq (f : Flag) (v : Bool) (s : State) : (s.setP f v).irq = s.irq := rfl
@[simp] theorem State.setP_counters (f : Flag) (v : Bool) (s : State) : (s.setP f v).counters = s.counters := rfl
@[simp] theorem State.setP_mem (f : Flag) (v : Bool) (s : State) : (s.setP f v).mem = s.mem := rfl
@[simp] theorem State.setP_cfg (f : Flag) (v : Bool) (s : State) : (s.setP f v).cfg = s.cfg := rfl

@[simp] theorem State.loadVector_a (v : Word) (s : State) : (s.loadVector v).a = s.a := rfl
@[simp] theorem State.loadVector_x (v : Word) (s : State) : (s.loadVector v).x = s.x := rfl
@[simp] theorem State.loadVector_y (v : Word) (s : State) : (s.loadVector v).y = s.y := rfl
@[simp] theorem State.loadVector_spUser (v : Word) (s : State) : (s.loadVector v).spUser = s.spUser := rfl
@[simp] theorem State.loadVector_spKernel (v : Word) (s : State) : (s.loadVector v).spKernel = s.spKernel := rfl
@[simp] theorem State.loadVector_pc (v : Word) (s : State) : (s.loadVector v).pc = s.readWord ⟨v, .full⟩ := rfl
@[simp] theorem State.loadVector_p (v : Word) (s : State) : (s.loadVector v).p = s.p := rfl
@[simp] theorem State.loadVector_ip (v : Word) (s : State) : (s.loadVector v).ip = s.ip := rfl
@[simp] theorem State.loadVector_wp (v : Word) (s : State) : (s.loadVector v).wp = s.wp := rfl
@[simp] theorem State.loadVector_ps (v : Word) (s : State) : (s.loadVector v).ps = s.ps := rfl
@[simp] theorem State.loadVector_nmiPending (v : Word) (s : State) : (s.loadVector v).nmiPending = s.nmiPending := rfl
@[simp] theorem State.loadVector_irq (v : Word) (s : State) : (s.loadVector v).irq = s.irq := rfl
@[simp] theorem State.loadVector_counters (v : Word) (s : State) : (s.loadVector v).counters = { s.counters with dataReads := s.counters.dataReads + 2 } := rfl
@[simp] theorem State.loadVector_mem (v : Word) (s : State) : (s.loadVector v).mem = s.mem := rfl
@[simp] theorem State.loadVector_cfg (v : Word) (s : State) : (s.loadVector v).cfg = s.cfg := rfl

@[simp] theorem State.fetched_a (n : Nat) (s : State) : (s.fetched n).a = s.a := rfl
@[simp] theorem State.fetched_x (n : Nat) (s : State) : (s.fetched n).x = s.x := rfl
@[simp] theorem State.fetched_y (n : Nat) (s : State) : (s.fetched n).y = s.y := rfl
@[simp] theorem State.fetched_spUser (n : Nat) (s : State) : (s.fetched n).spUser = s.spUser := rfl
@[simp] theorem State.fetched_spKernel (n : Nat) (s : State) : (s.fetched n).spKernel = s.spKernel := rfl
@[simp] theorem State.fetched_pc (n : Nat) (s : State) : (s.fetched n).pc = s.pc + BitVec.ofNat 16 n := rfl
@[simp] theorem State.fetched_p (n : Nat) (s : State) : (s.fetched n).p = s.p := rfl
@[simp] theorem State.fetched_ip (n : Nat) (s : State) : (s.fetched n).ip = s.ip := rfl
@[simp] theorem State.fetched_wp (n : Nat) (s : State) : (s.fetched n).wp = s.wp := rfl
@[simp] theorem State.fetched_ps (n : Nat) (s : State) : (s.fetched n).ps = s.ps := rfl
@[simp] theorem State.fetched_nmiPending (n : Nat) (s : State) : (s.fetched n).nmiPending = s.nmiPending := rfl
@[simp] theorem State.fetched_irq (n : Nat) (s : State) : (s.fetched n).irq = s.irq := rfl
@[simp] theorem State.fetched_counters (n : Nat) (s : State) : (s.fetched n).counters = { s.counters with progReads := s.counters.progReads + n } := rfl
@[simp] theorem State.fetched_mem (n : Nat) (s : State) : (s.fetched n).mem = s.mem := rfl
@[simp] theorem State.fetched_cfg (n : Nat) (s : State) : (s.fetched n).cfg = s.cfg := rfl

@[simp] theorem State.addCycles_a (m n : Nat) (s : State) : (s.addCycles m n).a = s.a := rfl
@[simp] theorem State.addCycles_x (m n : Nat) (s : State) : (s.addCycles m n).x = s.x := rfl
@[simp] theorem State.addCycles_y (m n : Nat) (s : State) : (s.addCycles m n).y = s.y := rfl
@[simp] theorem State.addCycles_spUser (m n : Nat) (s : State) : (s.addCycles m n).spUser = s.spUser := rfl
@[simp] theorem State.addCycles_spKernel (m n : Nat) (s : State) : (s.addCycles m n).spKernel = s.spKernel := rfl
@[simp] theorem State.addCycles_pc (m n : Nat) (s : State) : (s.addCycles m n).pc = s.pc := rfl
@[simp] theorem State.addCycles_p (m n : Nat) (s : State) : (s.addCycles m n).p = s.p := rfl
@[simp] theorem State.addCycles_ip (m n : Nat) (s : State) : (s.addCycles m n).ip = s.ip := rfl
@[simp] theorem State.addCycles_wp (m n : Nat) (s : State) : (s.addCycles m n).wp = s.wp := rfl
@[simp] theorem State.addCycles_ps (m n : Nat) (s : State) : (s.addCycles m n).ps = s.ps := rfl
@[simp] theorem State.addCycles_nmiPending (m n : Nat) (s : State) : (s.addCycles m n).nmiPending = s.nmiPending := rfl
@[simp] theorem State.addCycles_irq (m n : Nat) (s : State) : (s.addCycles m n).irq = s.irq := rfl
@[simp] theorem State.addCycles_counters (m n : Nat) (s : State) : (s.addCycles m n).counters = { s.counters with cycles := s.counters.cycles + m, dummyCycles := s.counters.dummyCycles + n } := rfl
@[simp] theorem State.addCycles_mem (m n : Nat) (s : State) : (s.addCycles m n).mem = s.mem := rfl
@[simp] theorem State.addCycles_cfg (m n : Nat) (s : State) : (s.addCycles m n).cfg = s.cfg := rfl

@[simp] theorem State.setSp_a (v : Word) (s : State) : (s.setSp v).a = s.a := by
  unfold State.setSp; split <;> simp [*]
@[simp] theorem State.setSp_x (v : Word) (s : State) : (s.setSp v).x = s.x := by
  unfold State.setSp; split <;> simp [*]
@[simp] theorem State.setSp_y (v : Word) (s : State) : (s.setSp v).y = s.y := by
  unfold State.setSp; split <;> simp [*]
theorem State.setSp_spUser (v : Word) (s : State) : (s.setSp v).spUser = if getFlag .m s.p then s.spUser else v := by
  unfold State.setSp; split <;> simp [*]
theorem State.setSp_spKernel (v : Word) (s : State) : (s.setSp v).spKernel = if getFlag .m s.p then v else s.spKernel := by
  unfold State.setSp; split <;> simp [*]
@[simp] theorem State.setSp_pc (v : Word) (s : State) : (s.setSp v).pc = s.pc := by
  unfold State.setSp; split <;> simp [*]
@[simp] theorem State.setSp_p (v : Word) (s : State) : (s.setSp v).p = s.p := by
  unfold State.setSp; split <;> simp [*]
@[simp] theorem State.setSp_ip (v : Word) (s : State) : (s.setSp v).ip = s.ip := by
  unfold State.setSp; split <;> simp [*]
@[simp] theorem State.setSp_wp (v : Word) (s : State) : (s.setSp v).wp = s.wp := by
  unfold State.setSp; split <;> simp [*]
@[simp] theorem State.setSp_ps (v : Word) (s : State) : (s.setSp v).ps = s.ps := by
  unfold State.setSp; split <;> simp [*]
@[simp] theorem State.setSp_nmiPending (v : Word) (s : State) : (s.setSp v).nmiPending = s.nmiPending := by
  unfold State.setSp; split <;> simp [*]
@[simp] theorem State.setSp_irq (v : Word) (s : State) : (s.setSp v).irq = s.irq := by
  unfold State.setSp; split <;> simp [*]
@[simp] theorem State.setSp_counters (v : Word) (s : State) : (s.setSp v).counters = s.counters := by
  unfold State.setSp; split <;> simp [*]
@[simp] theorem State.setSp_mem (v : Word) (s : State) : (s.setSp v).mem = s.mem := by
  unfold State.setSp; split <;> simp [*]
@[simp] theorem State.setSp_cfg (v : Word) (s : State) : (s.setSp v).cfg = s.cfg := by
  unfold State.setSp; split <;> simp [*]

theorem State.setStack_a (r : RegName) (v : RegStack) (s : State) : (s.setStack r v).a = if r = .a then v else s.a := by
  cases r <;> rfl
theorem State.setStack_x (r : RegName) (v : RegStack) (s : State) : (s.setStack r v).x = if r = .x then v else s.x := by
  cases r <;> rfl
theorem State.setStack_y (r : RegName) (v : RegStack) (s : State) : (s.setStack r v).y = if r = .y then v else s.y := by
  cases r <;> rfl
@[simp] theorem State.setStack_spUser (r : RegName) (v : RegStack) (s : State) : (s.setStack r v).spUser = s.spUser := by
  cases r <;> rfl
@[simp] theorem State.setStack_spKernel (r : RegName) (v : RegStack) (s : State) : (s.setStack r v).spKernel = s.spKernel := by
  cases r <;> rfl
@[simp] theorem State.setStack_pc (r : RegName) (v : RegStack) (s : State) : (s.setStack r v).pc = s.pc := by
  cases r <;> rfl
@[simp] theorem State.setStack_p (r : RegName) (v : RegStack) (s : State) : (s.setStack r v).p = s.p := by
  cases r <;> rfl
@[simp] theorem State.setStack_ip (r : RegName) (v : RegStack) (s : State) : (s.setStack r v).ip = s.ip := by
  cases r <;> rfl
@[simp] theorem State.setStack_wp (r : RegName) (v : RegStack) (s : State) : (s.setStack r v).wp = s.wp := by
  cases r <;> rfl
@[simp] theorem State.setStack_ps (r : RegName) (v : RegStack) (s : State) : (s.setStack r v).ps = s.ps := by
  cases r <;> rfl
@[simp] theorem State.setStack_nmiPending (r : RegName) (v : RegStack) (s : State) : (s.setStack r v).nmiPending = s.nmiPending := by
  cases r <;> rfl
@[simp] theorem State.setStack_irq (r : RegName) (v : RegStack) (s : State) : (s.setStack r v).irq = s.irq := by
  cases r <;> rfl
@[simp] theorem State.setStack_counters (r : RegName) (v : RegStack) (s : State) : (s.setStack r v).counters = s.counters := by
  cases r <;> rfl
@[simp] theorem State.setStack_mem (r : RegName) (v : RegStack) (s : State) : (s.setStack r v).mem = s.mem := by
  cases r <;> rfl
@[simp] theorem State.setStack_cfg (r : RegName) (v : RegStack) (s : State) : (s.setStack r v).cfg = s.cfg := by
  cases r <;> rfl

@[simp] theorem State.setSlot0_spUser (r : RegName) (v : Word) (s : State) : (s.setSlot0 r v).spUser = s.spUser := by
  cases r <;> rfl
@[simp] theorem State.setSlot0_spKernel (r : RegName) (v : Word) (s : State) : (s.setSlot0 r v).spKernel = s.spKernel := by
  cases r <;> rfl
@[simp] theorem State.setSlot0_pc (r : RegName) (v : Word) (s : State) : (s.setSlot0 r v).pc = s.pc := by
  cases r <;> rfl
@[simp] theorem State.setSlot0_p (r : RegName) (v : Word) (s : State) : (s.setSlot0 r v).p = s.p := by
  cases r <;> rfl
@[simp] theorem State.setSlot0_ip (r : RegName) (v : Word) (s : State) : (s.setSlot0 r v).ip = s.ip := by
  cases r <;> rfl
@[simp] theorem State.setSlot0_wp (r : RegName) (v : Word) (s : State) : (s.setSlot0 r v).wp = s.wp := by
  cases r <;> rfl
@[simp] theorem State.setSlot0_ps (r : RegName) (v : Word) (s : State) : (s.setSlot0 r v).ps = s.ps := by
  cases r <;> rfl
@[simp] theorem State.setSlot0_nmiPending (r : RegName) (v : Word) (s : State) : (s.setSlot0 r v).nmiPending = s.nmiPending := by
  cases r <;> rfl
@[simp] theorem State.setSlot0_irq (r : RegName) (v : Word) (s : State) : (s.setSlot0 r v).irq = s.irq := by
  cases r <;> rfl
@[simp] theorem State.setSlot0_counters (r : RegName) (v : Word) (s : State) : (s.setSlot0 r v).counters = s.counters := by
  cases r <;> rfl
@[simp] theorem State.setSlot0_mem (r : RegName) (v : Word) (s : State) : (s.setSlot0 r v).mem = s.mem := by
  cases r <;> rfl
@[simp] theorem State.setSlot0_cfg (r : RegName) (v : Word) (s : State) : (s.setSlot0 r v).cfg = s.cfg := by
  cases r <;> rfl

@[simp] theorem State.markLscx_a (o : Operand) (s : State) : (s.markLscx o).a = s.a := by
  unfold State.markLscx; split <;> rfl
@[simp] theorem State.markLscx_x (o : Operand) (s : State) : (s.markLscx o).x = s.x := by
  unfold State.markLscx; split <;> rfl
@[simp] theorem State.markLscx_y (o : Operand) (s : State) : (s.markLscx o).y = s.y := by
  unfold State.markLscx; split <;> rfl
@[simp] theorem State.markLscx_spUser (o : Operand) (s : State) : (s.markLscx o).spUser = s.spUser := by
  unfold State.markLscx; split <;> rfl
@[simp] theorem State.markLscx_spKernel (o : Operand) (s : State) : (s.markLscx o).spKernel = s.spKernel := by
  unfold State.markLscx; split <;> rfl
@[simp] theorem State.markLscx_pc (o : Operand) (s : State) : (s.markLscx o).pc = s.pc := by
  unfold State.markLscx; split <;> rfl
@[simp] theorem State.markLscx_p (o : Operand) (s : State) : (s.markLscx o).p = s.p := by
  unfold State.markLscx; split <;> rfl
@[simp] theorem State.markLscx_ip (o : Operand) (s : State) : (s.markLscx o).ip = s.ip := by
  unfold State.markLscx; split <;> rfl
@[simp] theorem State.markLscx_wp (o : Operand) (s : State) : (s.markLscx o).wp = s.wp := by
  unfold State.markLscx; split <;> rfl
@[simp] theorem State.markLscx_nmiPending (o : Operand) (s : State) : (s.markLscx o).nmiPending = s.nmiPending := by
  unfold State.markLscx; split <;> rfl
@[simp] theorem State.markLscx_irq (o : Operand) (s : State) : (s.markLscx o).irq = s.irq := by
  unfold State.markLscx; split <;> rfl
@[simp] theorem State.markLscx_counters (o : Operand) (s : State) : (s.markLscx o).counters = s.counters := by
  unfold State.markLscx; split <;> rfl
@[simp] theorem State.markLscx_mem (o : Operand) (s : State) : (s.markLscx o).mem = s.mem := by
  unfold State.markLscx; split <;> rfl
@[simp] theorem State.markLscx_cfg (o : Operand) (s : State) : (s.markLscx o).cfg = s.cfg := by
  unfold State.markLscx; split <;> rfl

@[simp] theorem State.settleIp_a (m : MemMode) (W : Width) (s : State) : (s.settleIp m W).a = s.a := by
  unfold State.settleIp; split <;> (try split) <;> rfl
@[simp] theorem State.settleIp_x (m : MemMode) (W : Width) (s : State) : (s.settleIp m W).x = s.x := by
  unfold State.settleIp; split <;> (try split) <;> rfl
@[simp] theorem State.settleIp_y (m : MemMode) (W : Width) (s : State) : (s.settleIp m W).y = s.y := by
  unfold State.settleIp; split <;> (try split) <;> rfl
@[simp] theorem State.settleIp_spUser (m : MemMode) (W : Width) (s : State) : (s.settleIp m W).spUser = s.spUser := by
  unfold State.settleIp; split <;> (try split) <;> rfl
@[simp] theorem State.settleIp_spKernel (m : MemMode) (W : Width) (s : State) : (s.settleIp m W).spKernel = s.spKernel := by
  unfold State.settleIp; split <;> (try split) <;> rfl
@[simp] theorem State.settleIp_pc (m : MemMode) (W : Width) (s : State) : (s.settleIp m W).pc = s.pc := by
  unfold State.settleIp; split <;> (try split) <;> rfl
@[simp] theorem State.settleIp_p (m : MemMode) (W : Width) (s : State) : (s.settleIp m W).p = s.p := by
  unfold State.settleIp; split <;> (try split) <;> rfl
@[simp] theorem State.settleIp_wp (m : MemMode) (W : Width) (s : State) : (s.settleIp m W).wp = s.wp := by
  unfold State.settleIp; split <;> (try split) <;> rfl
@[simp] theorem State.settleIp_ps (m : MemMode) (W : Width) (s : State) : (s.settleIp m W).ps = s.ps := by
  unfold State.settleIp; split <;> (try split) <;> rfl
@[simp] theorem State.settleIp_nmiPending (m : MemMode) (W : Width) (s : State) : (s.settleIp m W).nmiPending = s.nmiPending := by
  unfold State.settleIp; split <;> (try split) <;> rfl
@[simp] theorem State.settleIp_irq (m : MemMode) (W : Width) (s : State) : (s.settleIp m W).irq = s.irq := by
  unfold State.settleIp; split <;> (try split) <;> rfl
@[simp] theorem State.settleIp_counters (m : MemMode) (W : Width) (s : State) : (s.settleIp m W).counters = s.counters := by
  unfold State.settleIp; split <;> (try split) <;> rfl
@[simp] theorem State.settleIp_mem (m : MemMode) (W : Width) (s : State) : (s.settleIp m W).mem = s.mem := by
  unfold State.settleIp; split <;> (try split) <;> rfl
@[simp] theorem State.settleIp_cfg (m : MemMode) (W : Width) (s : State) : (s.settleIp m W).cfg = s.cfg := by
  unfold State.settleIp; split <;> (try split) <;> rfl

end Sys2Proof.Machine
end

