-- ==== Sys2Proof/Laws/Ops.lean ====
section
/-! SUPPORT. What each shared operation leaves unchanged, field by field, and what it does, said once. -/

namespace Sys2Proof.Machine

@[simp] theorem State.writeMem_a (ea : EA) (W : Width) (v : Word) (s : State) : (s.writeMem ea W v).a = s.a := by cases W <;> rfl
@[simp] theorem State.writeMem_x (ea : EA) (W : Width) (v : Word) (s : State) : (s.writeMem ea W v).x = s.x := by cases W <;> rfl
@[simp] theorem State.writeMem_y (ea : EA) (W : Width) (v : Word) (s : State) : (s.writeMem ea W v).y = s.y := by cases W <;> rfl
@[simp] theorem State.writeMem_spUser (ea : EA) (W : Width) (v : Word) (s : State) : (s.writeMem ea W v).spUser = s.spUser := by cases W <;> rfl
@[simp] theorem State.writeMem_spKernel (ea : EA) (W : Width) (v : Word) (s : State) : (s.writeMem ea W v).spKernel = s.spKernel := by cases W <;> rfl
@[simp] theorem State.writeMem_pc (ea : EA) (W : Width) (v : Word) (s : State) : (s.writeMem ea W v).pc = s.pc := by cases W <;> rfl
@[simp] theorem State.writeMem_p (ea : EA) (W : Width) (v : Word) (s : State) : (s.writeMem ea W v).p = s.p := by cases W <;> rfl
@[simp] theorem State.writeMem_ip (ea : EA) (W : Width) (v : Word) (s : State) : (s.writeMem ea W v).ip = s.ip := by cases W <;> rfl
@[simp] theorem State.writeMem_wp (ea : EA) (W : Width) (v : Word) (s : State) : (s.writeMem ea W v).wp = s.wp := by cases W <;> rfl
@[simp] theorem State.writeMem_ps (ea : EA) (W : Width) (v : Word) (s : State) : (s.writeMem ea W v).ps = s.ps := by cases W <;> rfl
@[simp] theorem State.writeMem_nmiPending (ea : EA) (W : Width) (v : Word) (s : State) : (s.writeMem ea W v).nmiPending = s.nmiPending := by cases W <;> rfl
@[simp] theorem State.writeMem_irq (ea : EA) (W : Width) (v : Word) (s : State) : (s.writeMem ea W v).irq = s.irq := by cases W <;> rfl
@[simp] theorem State.writeMem_cfg (ea : EA) (W : Width) (v : Word) (s : State) : (s.writeMem ea W v).cfg = s.cfg := by cases W <;> rfl

@[simp] theorem State.push8_a (v : Byte) (s : State) : (s.push8 v).a = s.a := by simp [State.push8]
@[simp] theorem State.push8_x (v : Byte) (s : State) : (s.push8 v).x = s.x := by simp [State.push8]
@[simp] theorem State.push8_y (v : Byte) (s : State) : (s.push8 v).y = s.y := by simp [State.push8]
@[simp] theorem State.push8_pc (v : Byte) (s : State) : (s.push8 v).pc = s.pc := by simp [State.push8]
@[simp] theorem State.push8_p (v : Byte) (s : State) : (s.push8 v).p = s.p := by simp [State.push8]
@[simp] theorem State.push8_ip (v : Byte) (s : State) : (s.push8 v).ip = s.ip := by simp [State.push8]
@[simp] theorem State.push8_wp (v : Byte) (s : State) : (s.push8 v).wp = s.wp := by simp [State.push8]
@[simp] theorem State.push8_ps (v : Byte) (s : State) : (s.push8 v).ps = s.ps := by simp [State.push8]
@[simp] theorem State.push8_nmiPending (v : Byte) (s : State) : (s.push8 v).nmiPending = s.nmiPending := by simp [State.push8]
@[simp] theorem State.push8_irq (v : Byte) (s : State) : (s.push8 v).irq = s.irq := by simp [State.push8]
@[simp] theorem State.push8_cfg (v : Byte) (s : State) : (s.push8 v).cfg = s.cfg := by simp [State.push8]

@[simp] theorem State.push16_a (v : Word) (s : State) : (s.push16 v).a = s.a := by simp [State.push16]
@[simp] theorem State.push16_x (v : Word) (s : State) : (s.push16 v).x = s.x := by simp [State.push16]
@[simp] theorem State.push16_y (v : Word) (s : State) : (s.push16 v).y = s.y := by simp [State.push16]
@[simp] theorem State.push16_pc (v : Word) (s : State) : (s.push16 v).pc = s.pc := by simp [State.push16]
@[simp] theorem State.push16_p (v : Word) (s : State) : (s.push16 v).p = s.p := by simp [State.push16]
@[simp] theorem State.push16_ip (v : Word) (s : State) : (s.push16 v).ip = s.ip := by simp [State.push16]
@[simp] theorem State.push16_wp (v : Word) (s : State) : (s.push16 v).wp = s.wp := by simp [State.push16]
@[simp] theorem State.push16_ps (v : Word) (s : State) : (s.push16 v).ps = s.ps := by simp [State.push16]
@[simp] theorem State.push16_nmiPending (v : Word) (s : State) : (s.push16 v).nmiPending = s.nmiPending := by simp [State.push16]
@[simp] theorem State.push16_irq (v : Word) (s : State) : (s.push16 v).irq = s.irq := by simp [State.push16]
@[simp] theorem State.push16_cfg (v : Word) (s : State) : (s.push16 v).cfg = s.cfg := by simp [State.push16]

@[simp] theorem State.pushW_a (W : Width) (v : Word) (s : State) : (s.pushW W v).a = s.a := by cases W <;> simp [State.pushW]
@[simp] theorem State.pushW_x (W : Width) (v : Word) (s : State) : (s.pushW W v).x = s.x := by cases W <;> simp [State.pushW]
@[simp] theorem State.pushW_y (W : Width) (v : Word) (s : State) : (s.pushW W v).y = s.y := by cases W <;> simp [State.pushW]
@[simp] theorem State.pushW_pc (W : Width) (v : Word) (s : State) : (s.pushW W v).pc = s.pc := by cases W <;> simp [State.pushW]
@[simp] theorem State.pushW_p (W : Width) (v : Word) (s : State) : (s.pushW W v).p = s.p := by cases W <;> simp [State.pushW]
@[simp] theorem State.pushW_ip (W : Width) (v : Word) (s : State) : (s.pushW W v).ip = s.ip := by cases W <;> simp [State.pushW]
@[simp] theorem State.pushW_wp (W : Width) (v : Word) (s : State) : (s.pushW W v).wp = s.wp := by cases W <;> simp [State.pushW]
@[simp] theorem State.pushW_ps (W : Width) (v : Word) (s : State) : (s.pushW W v).ps = s.ps := by cases W <;> simp [State.pushW]
@[simp] theorem State.pushW_nmiPending (W : Width) (v : Word) (s : State) : (s.pushW W v).nmiPending = s.nmiPending := by cases W <;> simp [State.pushW]
@[simp] theorem State.pushW_irq (W : Width) (v : Word) (s : State) : (s.pushW W v).irq = s.irq := by cases W <;> simp [State.pushW]
@[simp] theorem State.pushW_cfg (W : Width) (v : Word) (s : State) : (s.pushW W v).cfg = s.cfg := by cases W <;> simp [State.pushW]

@[simp] theorem State.pull8_a  (s : State) : (s.pull8.st).a = s.a := by simp [State.pull8]
@[simp] theorem State.pull8_x  (s : State) : (s.pull8.st).x = s.x := by simp [State.pull8]
@[simp] theorem State.pull8_y  (s : State) : (s.pull8.st).y = s.y := by simp [State.pull8]
@[simp] theorem State.pull8_pc  (s : State) : (s.pull8.st).pc = s.pc := by simp [State.pull8]
@[simp] theorem State.pull8_p  (s : State) : (s.pull8.st).p = s.p := by simp [State.pull8]
@[simp] theorem State.pull8_ip  (s : State) : (s.pull8.st).ip = s.ip := by simp [State.pull8]
@[simp] theorem State.pull8_wp  (s : State) : (s.pull8.st).wp = s.wp := by simp [State.pull8]
@[simp] theorem State.pull8_ps  (s : State) : (s.pull8.st).ps = s.ps := by simp [State.pull8]
@[simp] theorem State.pull8_nmiPending  (s : State) : (s.pull8.st).nmiPending = s.nmiPending := by simp [State.pull8]
@[simp] theorem State.pull8_irq  (s : State) : (s.pull8.st).irq = s.irq := by simp [State.pull8]
@[simp] theorem State.pull8_mem  (s : State) : (s.pull8.st).mem = s.mem := by simp [State.pull8]
@[simp] theorem State.pull8_cfg  (s : State) : (s.pull8.st).cfg = s.cfg := by simp [State.pull8]

@[simp] theorem State.pull16_a  (s : State) : (s.pull16.st).a = s.a := by simp [State.pull16]
@[simp] theorem State.pull16_x  (s : State) : (s.pull16.st).x = s.x := by simp [State.pull16]
@[simp] theorem State.pull16_y  (s : State) : (s.pull16.st).y = s.y := by simp [State.pull16]
@[simp] theorem State.pull16_pc  (s : State) : (s.pull16.st).pc = s.pc := by simp [State.pull16]
@[simp] theorem State.pull16_p  (s : State) : (s.pull16.st).p = s.p := by simp [State.pull16]
@[simp] theorem State.pull16_ip  (s : State) : (s.pull16.st).ip = s.ip := by simp [State.pull16]
@[simp] theorem State.pull16_wp  (s : State) : (s.pull16.st).wp = s.wp := by simp [State.pull16]
@[simp] theorem State.pull16_ps  (s : State) : (s.pull16.st).ps = s.ps := by simp [State.pull16]
@[simp] theorem State.pull16_nmiPending  (s : State) : (s.pull16.st).nmiPending = s.nmiPending := by simp [State.pull16]
@[simp] theorem State.pull16_irq  (s : State) : (s.pull16.st).irq = s.irq := by simp [State.pull16]
@[simp] theorem State.pull16_mem  (s : State) : (s.pull16.st).mem = s.mem := by simp [State.pull16]
@[simp] theorem State.pull16_cfg  (s : State) : (s.pull16.st).cfg = s.cfg := by simp [State.pull16]

@[simp] theorem State.pullW_a (W : Width) (s : State) : ((s.pullW W).st).a = s.a := by cases W <;> simp [State.pullW]
@[simp] theorem State.pullW_x (W : Width) (s : State) : ((s.pullW W).st).x = s.x := by cases W <;> simp [State.pullW]
@[simp] theorem State.pullW_y (W : Width) (s : State) : ((s.pullW W).st).y = s.y := by cases W <;> simp [State.pullW]
@[simp] theorem State.pullW_pc (W : Width) (s : State) : ((s.pullW W).st).pc = s.pc := by cases W <;> simp [State.pullW]
@[simp] theorem State.pullW_p (W : Width) (s : State) : ((s.pullW W).st).p = s.p := by cases W <;> simp [State.pullW]
@[simp] theorem State.pullW_ip (W : Width) (s : State) : ((s.pullW W).st).ip = s.ip := by cases W <;> simp [State.pullW]
@[simp] theorem State.pullW_wp (W : Width) (s : State) : ((s.pullW W).st).wp = s.wp := by cases W <;> simp [State.pullW]
@[simp] theorem State.pullW_ps (W : Width) (s : State) : ((s.pullW W).st).ps = s.ps := by cases W <;> simp [State.pullW]
@[simp] theorem State.pullW_nmiPending (W : Width) (s : State) : ((s.pullW W).st).nmiPending = s.nmiPending := by cases W <;> simp [State.pullW]
@[simp] theorem State.pullW_irq (W : Width) (s : State) : ((s.pullW W).st).irq = s.irq := by cases W <;> simp [State.pullW]
@[simp] theorem State.pullW_mem (W : Width) (s : State) : ((s.pullW W).st).mem = s.mem := by cases W <;> simp [State.pullW]
@[simp] theorem State.pullW_cfg (W : Width) (s : State) : ((s.pullW W).st).cfg = s.cfg := by cases W <;> simp [State.pullW]

@[simp] theorem State.wrReg_pc (d : DataReg) (W : Width) (v : Word) (s : State) : (s.wrReg d W v).pc = s.pc := by cases d <;> cases W <;> simp [State.wrReg]
@[simp] theorem State.wrReg_p (d : DataReg) (W : Width) (v : Word) (s : State) : (s.wrReg d W v).p = s.p := by cases d <;> cases W <;> simp [State.wrReg]
@[simp] theorem State.wrReg_ip (d : DataReg) (W : Width) (v : Word) (s : State) : (s.wrReg d W v).ip = s.ip := by cases d <;> cases W <;> simp [State.wrReg]
@[simp] theorem State.wrReg_wp (d : DataReg) (W : Width) (v : Word) (s : State) : (s.wrReg d W v).wp = s.wp := by cases d <;> cases W <;> simp [State.wrReg]
@[simp] theorem State.wrReg_ps (d : DataReg) (W : Width) (v : Word) (s : State) : (s.wrReg d W v).ps = s.ps := by cases d <;> cases W <;> simp [State.wrReg]
@[simp] theorem State.wrReg_nmiPending (d : DataReg) (W : Width) (v : Word) (s : State) : (s.wrReg d W v).nmiPending = s.nmiPending := by cases d <;> cases W <;> simp [State.wrReg]
@[simp] theorem State.wrReg_irq (d : DataReg) (W : Width) (v : Word) (s : State) : (s.wrReg d W v).irq = s.irq := by cases d <;> cases W <;> simp [State.wrReg]
@[simp] theorem State.wrReg_counters (d : DataReg) (W : Width) (v : Word) (s : State) : (s.wrReg d W v).counters = s.counters := by cases d <;> cases W <;> simp [State.wrReg]
@[simp] theorem State.wrReg_mem (d : DataReg) (W : Width) (v : Word) (s : State) : (s.wrReg d W v).mem = s.mem := by cases d <;> cases W <;> simp [State.wrReg]
@[simp] theorem State.wrReg_cfg (d : DataReg) (W : Width) (v : Word) (s : State) : (s.wrReg d W v).cfg = s.cfg := by cases d <;> cases W <;> simp [State.wrReg]

@[simp] theorem State.consume_a (o : Operand) (W : Width) (s : State) : (s.consume o W).a = s.a := by cases o <;> simp [State.consume]
@[simp] theorem State.consume_x (o : Operand) (W : Width) (s : State) : (s.consume o W).x = s.x := by cases o <;> simp [State.consume]
@[simp] theorem State.consume_y (o : Operand) (W : Width) (s : State) : (s.consume o W).y = s.y := by cases o <;> simp [State.consume]
@[simp] theorem State.consume_spUser (o : Operand) (W : Width) (s : State) : (s.consume o W).spUser = s.spUser := by cases o <;> simp [State.consume]
@[simp] theorem State.consume_spKernel (o : Operand) (W : Width) (s : State) : (s.consume o W).spKernel = s.spKernel := by cases o <;> simp [State.consume]
@[simp] theorem State.consume_pc (o : Operand) (W : Width) (s : State) : (s.consume o W).pc = s.pc := by cases o <;> simp [State.consume]
@[simp] theorem State.consume_p (o : Operand) (W : Width) (s : State) : (s.consume o W).p = s.p := by cases o <;> simp [State.consume]
@[simp] theorem State.consume_wp (o : Operand) (W : Width) (s : State) : (s.consume o W).wp = s.wp := by cases o <;> simp [State.consume]
@[simp] theorem State.consume_ps (o : Operand) (W : Width) (s : State) : (s.consume o W).ps = s.ps := by cases o <;> simp [State.consume]
@[simp] theorem State.consume_nmiPending (o : Operand) (W : Width) (s : State) : (s.consume o W).nmiPending = s.nmiPending := by cases o <;> simp [State.consume]
@[simp] theorem State.consume_irq (o : Operand) (W : Width) (s : State) : (s.consume o W).irq = s.irq := by cases o <;> simp [State.consume]
@[simp] theorem State.consume_mem (o : Operand) (W : Width) (s : State) : (s.consume o W).mem = s.mem := by cases o <;> simp [State.consume]
@[simp] theorem State.consume_cfg (o : Operand) (W : Width) (s : State) : (s.consume o W).cfg = s.cfg := by cases o <;> simp [State.consume]

@[simp] theorem State.store_a (m : MemMode) (W : Width) (v : Word) (s : State) : (s.store m W v).a = s.a := by simp [State.store]
@[simp] theorem State.store_x (m : MemMode) (W : Width) (v : Word) (s : State) : (s.store m W v).x = s.x := by simp [State.store]
@[simp] theorem State.store_y (m : MemMode) (W : Width) (v : Word) (s : State) : (s.store m W v).y = s.y := by simp [State.store]
@[simp] theorem State.store_spUser (m : MemMode) (W : Width) (v : Word) (s : State) : (s.store m W v).spUser = s.spUser := by simp [State.store]
@[simp] theorem State.store_spKernel (m : MemMode) (W : Width) (v : Word) (s : State) : (s.store m W v).spKernel = s.spKernel := by simp [State.store]
@[simp] theorem State.store_pc (m : MemMode) (W : Width) (v : Word) (s : State) : (s.store m W v).pc = s.pc := by simp [State.store]
@[simp] theorem State.store_p (m : MemMode) (W : Width) (v : Word) (s : State) : (s.store m W v).p = s.p := by simp [State.store]
@[simp] theorem State.store_wp (m : MemMode) (W : Width) (v : Word) (s : State) : (s.store m W v).wp = s.wp := by simp [State.store]
@[simp] theorem State.store_ps (m : MemMode) (W : Width) (v : Word) (s : State) : (s.store m W v).ps = s.ps := by simp [State.store]
@[simp] theorem State.store_nmiPending (m : MemMode) (W : Width) (v : Word) (s : State) : (s.store m W v).nmiPending = s.nmiPending := by simp [State.store]
@[simp] theorem State.store_irq (m : MemMode) (W : Width) (v : Word) (s : State) : (s.store m W v).irq = s.irq := by simp [State.store]
@[simp] theorem State.store_cfg (m : MemMode) (W : Width) (v : Word) (s : State) : (s.store m W v).cfg = s.cfg := by simp [State.store]

@[simp] theorem State.modify_a (m : MemMode) (W : Width) (v : Word) (s : State) : (s.modify m W v).a = s.a := by simp [State.modify]
@[simp] theorem State.modify_x (m : MemMode) (W : Width) (v : Word) (s : State) : (s.modify m W v).x = s.x := by simp [State.modify]
@[simp] theorem State.modify_y (m : MemMode) (W : Width) (v : Word) (s : State) : (s.modify m W v).y = s.y := by simp [State.modify]
@[simp] theorem State.modify_spUser (m : MemMode) (W : Width) (v : Word) (s : State) : (s.modify m W v).spUser = s.spUser := by simp [State.modify]
@[simp] theorem State.modify_spKernel (m : MemMode) (W : Width) (v : Word) (s : State) : (s.modify m W v).spKernel = s.spKernel := by simp [State.modify]
@[simp] theorem State.modify_pc (m : MemMode) (W : Width) (v : Word) (s : State) : (s.modify m W v).pc = s.pc := by simp [State.modify]
@[simp] theorem State.modify_p (m : MemMode) (W : Width) (v : Word) (s : State) : (s.modify m W v).p = s.p := by simp [State.modify]
@[simp] theorem State.modify_wp (m : MemMode) (W : Width) (v : Word) (s : State) : (s.modify m W v).wp = s.wp := by simp [State.modify]
@[simp] theorem State.modify_ps (m : MemMode) (W : Width) (v : Word) (s : State) : (s.modify m W v).ps = s.ps := by simp [State.modify]
@[simp] theorem State.modify_nmiPending (m : MemMode) (W : Width) (v : Word) (s : State) : (s.modify m W v).nmiPending = s.nmiPending := by simp [State.modify]
@[simp] theorem State.modify_irq (m : MemMode) (W : Width) (v : Word) (s : State) : (s.modify m W v).irq = s.irq := by simp [State.modify]
@[simp] theorem State.modify_cfg (m : MemMode) (W : Width) (v : Word) (s : State) : (s.modify m W v).cfg = s.cfg := by simp [State.modify]

/-! ## Reads depend on memory alone -/

theorem State.readByte_congr {s t : State} (h : t.mem = s.mem) (a : Word) : t.readByte a = s.readByte a := by
  simp [State.readByte, h]

theorem State.readWord_congr {s t : State} (h : t.mem = s.mem) (ea : EA) : t.readWord ea = s.readWord ea := by
  simp [State.readWord, State.readByte, h]

/-- A byte written is read back (20_memory.md R62, R63). -/
theorem State.readByte_writeByte_same (s : State) (a : Word) (v : Byte) (h : s.mem.wf = true) :
    (s.writeByte a v).readByte a = v := by
  simp [State.readByte, Memory.read_write_same _ _ _ h]

/-- A byte write leaves every other address. -/
theorem State.readByte_writeByte_of_ne (s : State) (a b : Word) (v : Byte) (h : b ≠ a) :
    (s.writeByte a v).readByte b = s.readByte b := by
  have : b.toNat ≠ a.toNat := fun e => h (BitVec.eq_of_toNat_eq e)
  simp [State.readByte, Memory.read_write_of_ne _ _ _ _ this]

/-! ## The operations keep memory in canonical form -/

theorem State.writeByte_wf (s : State) (a : Word) (v : Byte) (h : s.mem.wf = true) :
    (s.writeByte a v).mem.wf = true := by
  simpa using Memory.wf_write _ _ _ h a.isLt

theorem State.writeMem_wf (s : State) (ea : EA) (W : Width) (v : Word) (h : s.mem.wf = true) :
    (s.writeMem ea W v).mem.wf = true := by
  cases W with
  | byte => exact s.writeByte_wf _ _ h
  | word => exact State.writeByte_wf _ _ _ (s.writeByte_wf _ _ h)

theorem State.push8_wf (s : State) (v : Byte) (h : s.mem.wf = true) : (s.push8 v).mem.wf = true := by
  simpa [State.push8] using Memory.wf_write _ _ v h s.sp.isLt

theorem State.push16_wf (s : State) (v : Word) (h : s.mem.wf = true) : (s.push16 v).mem.wf = true :=
  State.push8_wf _ _ (s.push8_wf _ h)

theorem State.pushW_wf (s : State) (W : Width) (v : Word) (h : s.mem.wf = true) :
    (s.pushW W v).mem.wf = true := by
  cases W with
  | byte => exact s.push8_wf _ h
  | word => exact s.push16_wf _ h

theorem State.store_wf (s : State) (m : MemMode) (W : Width) (v : Word) (h : s.mem.wf = true) :
    (s.store m W v).mem.wf = true := by
  simpa [State.store] using State.writeMem_wf (s.countReads _) _ W v h

theorem State.modify_wf (s : State) (m : MemMode) (W : Width) (v : Word) (h : s.mem.wf = true) :
    (s.modify m W v).mem.wf = true := by
  simpa [State.modify] using State.writeMem_wf (s.countReads _) _ W v h

/-- Storing a run of bytes keeps memory in canonical form. -/
theorem storeBytes_wf (bs : List Byte) : ∀ (a : Word) (m : Memory), m.wf = true → (storeBytes a bs m).wf = true := by
  induction bs with
  | nil => intro a m h; exact h
  | cons b bs ih => intro a m h; exact ih _ _ (Memory.wf_write _ _ _ h a.isLt)

/-! ## Outcomes -/

/-- An instruction that honours oax/oay answers a next state exactly when the two are not both set (41_prefix.md R157). -/
theorem guardExchange_eq_next {s t u : State} : guardExchange s t = .next u ↔ s.conflict = false ∧ u = t := by
  cases h : s.conflict <;> simp [guardExchange, h, eq_comm]

theorem guardExchange_of_no_conflict {s : State} (t : State) (h : s.conflict = false) : guardExchange s t = .next t := by
  simp [guardExchange, h]

theorem guardExchange_of_conflict {s : State} (t : State) (h : s.conflict = true) :
    guardExchange s t = .fault .prefixConflict := by
  simp [guardExchange, h]

/-- What an outcome passed on can be. -/
theorem andThen_eq_next {f : State → State} {r : Result} {u : State} :
    andThen f r = .next u ↔ ∃ t, r = .next t ∧ u = f t := by
  cases r <;> simp [andThen, eq_comm]

/-! ## Flags -/

@[simp] theorem getFlag_setFlag (f g : Flag) (v : Bool) (p : Byte) :
    getFlag f (setFlag g v p) = if f = g then v else getFlag f p := by
  cases f <;> cases g <;> cases v <;> simp [getFlag, setFlag, flagBit]

@[simp] theorem getFlag_withBreak (f : Flag) (p : Byte) :
    getFlag f (withBreak p) = if f = .b then true else getFlag f p := by
  cases f <;> simp [getFlag, withBreak, flagBit]

end Sys2Proof.Machine
end

