-- ==== Sys2Proof/Laws/Stack.lean ====
section
/-! SUPPORT. The stack operations in one equation each: which bytes they store or read, where the active stack pointer
goes, what they count (45_stack.md section 1). -/

namespace Sys2Proof.Machine

/-- The second byte of a word lies at another address than the first. -/
theorem EA.nextAddr_ne_addr (ea : EA) : ea.nextAddr ≠ ea.addr := by
  intro h
  have h := congrArg BitVec.toNat h
  unfold EA.nextAddr at h
  cases hw : ea.wrap with
  | page =>
    simp only [hw, pageAdd_toNat, BitVec.toNat_ofNat] at h
    omega
  | full =>
    simp only [hw, BitVec.toNat_add, BitVec.toNat_ofNat] at h
    omega

/-! ## The active stack pointer -/

@[simp] theorem State.sp_setSp (v : Word) (s : State) : (s.setSp v).sp = v := by
  unfold State.sp State.setSp
  split <;> simp_all

/-- The active stack pointer depends on P and the two pointers alone. -/
theorem State.sp_congr {s t : State} (hp : getFlag .m t.p = getFlag .m s.p) (hu : t.spUser = s.spUser)
    (hk : t.spKernel = s.spKernel) : t.sp = s.sp := by
  simp [State.sp, hp, hu, hk]

/-- Replacing S twice keeps the second value. -/
@[simp] theorem State.setSp_setSp (v w : Word) (s : State) : (s.setSp v).setSp w = s.setSp w := by
  unfold State.setSp
  split <;> simp_all

/-- A pointer moved down once differs from where it was. -/
theorem sDec_ne (p : Word) : sDec p ≠ p := by
  intro h
  have h := congrArg BitVec.toNat h
  unfold sDec at h
  split at h
  · rw [pageAdd_toNat, BitVec.toNat_ofNat] at h
    omega
  · rw [BitVec.toNat_sub, BitVec.toNat_ofNat] at h
    omega

/-- A pointer moved down twice differs from where it was. -/
theorem sDec_sDec_ne (p : Word) : sDec (sDec p) ≠ p := by
  intro h
  have h := congrArg BitVec.toNat h
  unfold sDec belowThreshold spThreshold at h
  split at h
  · split at h
    · simp only [pageAdd_toNat, BitVec.toNat_ofNat] at h
      omega
    · simp only [BitVec.toNat_sub, pageAdd_toNat, BitVec.toNat_ofNat] at h
      simp_all only [decide_eq_true_eq, pageAdd_toNat, BitVec.toNat_ofNat]
      omega
  · split at h
    · simp only [BitVec.toNat_sub, pageAdd_toNat, BitVec.toNat_ofNat] at h
      simp_all only [decide_eq_true_eq, BitVec.toNat_sub, BitVec.toNat_ofNat]
      omega
    · simp only [BitVec.toNat_sub, BitVec.toNat_ofNat] at h
      omega

/-! ## Pushes -/

@[simp] theorem State.push8_sp (v : Byte) (s : State) : (s.push8 v).sp = sDec s.sp := by simp [State.push8]

@[simp] theorem State.push8_mem (v : Byte) (s : State) : (s.push8 v).mem = s.mem.write s.sp.toNat v := by
  simp [State.push8]

@[simp] theorem State.push8_counters (v : Byte) (s : State) :
    (s.push8 v).counters = { s.counters with dataWrites := s.counters.dataWrites + 1 } := by
  simp [State.push8]

@[simp] theorem State.push16_sp (v : Word) (s : State) : (s.push16 v).sp = sDec (sDec s.sp) := by
  simp [State.push16]

@[simp] theorem State.push16_mem (v : Word) (s : State) :
    (s.push16 v).mem = (s.mem.write s.sp.toNat (hiByte v)).write (sDec s.sp).toNat (loByte v) := by
  simp [State.push16]

@[simp] theorem State.push16_counters (v : Word) (s : State) :
    (s.push16 v).counters = { s.counters with dataWrites := s.counters.dataWrites + 2 } := by
  simp [State.push16]

/-- A push leaves the inactive pointer. -/
theorem State.push8_inactive (v : Byte) (s : State) :
    (getFlag .m s.p = true → (s.push8 v).spUser = s.spUser) ∧
    (getFlag .m s.p = false → (s.push8 v).spKernel = s.spKernel) := by
  constructor <;> intro h <;> simp [State.push8, State.setSp_spUser, State.setSp_spKernel, h]

/-- A word push leaves the inactive pointer. -/
theorem State.push16_inactive (v : Word) (s : State) :
    (getFlag .m s.p = true → (s.push16 v).spUser = s.spUser) ∧
    (getFlag .m s.p = false → (s.push16 v).spKernel = s.spKernel) := by
  constructor <;> intro h <;>
    simp [State.push16, State.push8, State.setSp_spUser, State.setSp_spKernel, h]

/-- What a byte push stores. -/
theorem State.readByte_push8 (v : Byte) (s : State) (a : Word) (h : s.mem.wf = true) :
    (s.push8 v).readByte a = if a = s.sp then v else s.readByte a := by
  unfold State.readByte
  rw [State.push8_mem]
  split
  · next e => rw [e, Memory.read_write_same _ _ _ h]
  · next e => exact Memory.read_write_of_ne _ _ _ _ (fun he => e (BitVec.eq_of_toNat_eq he))

/-- What a word push stores. -/
theorem State.readByte_push16 (v : Word) (s : State) (a : Word) (h : s.mem.wf = true) :
    (s.push16 v).readByte a =
      if a = sDec s.sp then loByte v else if a = s.sp then hiByte v else s.readByte a := by
  rw [State.push16, State.readByte_push8 _ _ _ (s.push8_wf _ h), State.push8_sp, State.readByte_push8 _ _ _ h]

/-! ## Pulls -/

@[simp] theorem State.pull8_val (s : State) : s.pull8.val = s.readByte (sInc s.sp) := rfl

@[simp] theorem State.pull8_sp (s : State) : s.pull8.st.sp = sInc s.sp := by
  have h : s.pull8.st.sp = (s.setSp (sInc s.sp)).sp := rfl
  rw [h, State.sp_setSp]

@[simp] theorem State.pull8_counters (s : State) :
    s.pull8.st.counters = { s.counters with dataReads := s.counters.dataReads + 1 } := by
  simp [State.pull8]

@[simp] theorem State.pull16_val (s : State) :
    s.pull16.val = mkWord (s.readByte (sInc (sInc s.sp))) (s.readByte (sInc s.sp)) := by
  have h : s.pull16.val = mkWord (s.pull8.st.readByte (sInc s.pull8.st.sp)) (s.readByte (sInc s.sp)) := rfl
  rw [h, State.pull8_sp, State.readByte_congr s.pull8_mem]

@[simp] theorem State.pull16_sp (s : State) : s.pull16.st.sp = sInc (sInc s.sp) := by
  have h : s.pull16.st = s.pull8.st.pull8.st := rfl
  rw [h, State.pull8_sp, State.pull8_sp]

@[simp] theorem State.pull16_counters (s : State) :
    s.pull16.st.counters = { s.counters with dataReads := s.counters.dataReads + 2 } := by
  have h : s.pull16.st = s.pull8.st.pull8.st := rfl
  rw [h, State.pull8_counters, State.pull8_counters]

/-- A pull leaves the inactive pointer. -/
theorem State.pull8_inactive (s : State) :
    (getFlag .m s.p = true → s.pull8.st.spUser = s.spUser) ∧
    (getFlag .m s.p = false → s.pull8.st.spKernel = s.spKernel) := by
  constructor <;> intro h <;> simp [State.pull8, State.setSp_spUser, State.setSp_spKernel, h]

/-- A word pull leaves the inactive pointer. -/
theorem State.pull16_inactive (s : State) :
    (getFlag .m s.p = true → s.pull16.st.spUser = s.spUser) ∧
    (getFlag .m s.p = false → s.pull16.st.spKernel = s.spKernel) := by
  constructor <;> intro h <;> simp [State.pull16, State.pull8, State.setSp_spUser, State.setSp_spKernel, h]

end Sys2Proof.Machine
end

