-- ==== Sys2Proof/Laws/Handlers.lean ====
section
/-! SUPPORT. What every shared operation of the instructions can do: when it answers a next state and which one, and
what an ordinary instruction (one that is no trap, no return from one, no PLP and no Forth word) leaves alone. -/

namespace Sys2Proof.Machine

/-- What an ordinary instruction leaves alone, or only lets grow. `ipp` says that its operand is in ipp mode, the one
mode that moves IP. -/
structure Ordinary (ipp : Bool) (s t : State) : Prop where
  cfg : t.cfg = s.cfg
  irq : t.irq = s.irq
  nmiPending : t.nmiPending = s.nmiPending
  wp : t.wp = s.wp
  ip : ipp = false → t.ip = s.ip
  mode : getFlag .m t.p = getFlag .m s.p
  brk : getFlag .b t.p = getFlag .b s.p
  user : getFlag .m s.p = true → t.spUser = s.spUser
  kernel : getFlag .m s.p = false → t.spKernel = s.spKernel
  wf : s.mem.wf = true → t.mem.wf = true
  progReads : t.counters.progReads = s.counters.progReads
  instructions : t.counters.instructions = s.counters.instructions
  cycles : t.counters.cycles = s.counters.cycles
  dummyCycles : t.counters.dummyCycles = s.counters.dummyCycles
  dataReads : s.counters.dataReads ≤ t.counters.dataReads
  dataWrites : s.counters.dataWrites ≤ t.counters.dataWrites

namespace Ordinary

variable {ipp : Bool} {s t u : State}

theorem refl (s : State) : Ordinary ipp s s := by
  constructor <;> simp

theorem trans (h : Ordinary ipp s t) (k : Ordinary ipp t u) : Ordinary ipp s u where
  cfg := k.cfg.trans h.cfg
  irq := k.irq.trans h.irq
  nmiPending := k.nmiPending.trans h.nmiPending
  wp := k.wp.trans h.wp
  ip hi := (k.ip hi).trans (h.ip hi)
  mode := k.mode.trans h.mode
  brk := k.brk.trans h.brk
  user hm := (k.user (h.mode.trans hm)).trans (h.user hm)
  kernel hm := (k.kernel (h.mode.trans hm)).trans (h.kernel hm)
  wf hw := k.wf (h.wf hw)
  progReads := k.progReads.trans h.progReads
  instructions := k.instructions.trans h.instructions
  cycles := k.cycles.trans h.cycles
  dummyCycles := k.dummyCycles.trans h.dummyCycles
  dataReads := Nat.le_trans h.dataReads k.dataReads
  dataWrites := Nat.le_trans h.dataWrites k.dataWrites

theorem countReads (n : Nat) (s : State) : Ordinary ipp s (s.countReads n) := by
  constructor <;> simp

theorem setPc (v : Word) (s : State) : Ordinary ipp s { s with pc := v } := by
  constructor <;> simp

theorem setPs (v : PrefixState) (s : State) : Ordinary ipp s { s with ps := v } := by
  constructor <;> simp

theorem setStack (r : RegName) (v : RegStack) (s : State) : Ordinary ipp s (s.setStack r v) := by
  cases r <;> constructor <;> simp [State.setStack]

/-- A change of P that keeps MODE and BREAK. -/
theorem mapP (f : Byte → Byte) (s : State) (hm : getFlag .m (f s.p) = getFlag .m s.p)
    (hb : getFlag .b (f s.p) = getFlag .b s.p) : Ordinary ipp s (s.mapP f) := by
  constructor <;> simp [hm, hb]

theorem writeByte (a : Word) (v : Byte) (s : State) : Ordinary ipp s (s.writeByte a v) where
  cfg := rfl
  irq := rfl
  nmiPending := rfl
  wp := rfl
  ip _ := rfl
  mode := rfl
  brk := rfl
  user _ := rfl
  kernel _ := rfl
  wf h := s.writeByte_wf a v h
  progReads := rfl
  instructions := rfl
  cycles := rfl
  dummyCycles := rfl
  dataReads := Nat.le_refl _
  dataWrites := Nat.le_succ _

theorem writeMem (ea : EA) (W : Width) (v : Word) (s : State) : Ordinary ipp s (s.writeMem ea W v) := by
  cases W with
  | byte => exact writeByte _ _ s
  | word => exact (writeByte _ _ s).trans (writeByte _ _ _)

theorem setSp (v : Word) (s : State) : Ordinary ipp s (s.setSp v) where
  cfg := by simp
  irq := by simp
  nmiPending := by simp
  wp := by simp
  ip := by simp
  mode := by simp
  brk := by simp
  user h := by simp [State.setSp_spUser, h]
  kernel h := by simp [State.setSp_spKernel, h]
  wf := by simp
  progReads := by simp
  instructions := by simp
  cycles := by simp
  dummyCycles := by simp
  dataReads := by simp
  dataWrites := by simp

theorem wrReg (d : DataReg) (W : Width) (v : Word) (s : State) : Ordinary ipp s (s.wrReg d W v) := by
  cases d with
  | slot r => cases W <;> exact setStack r _ s
  | sp => cases W <;> exact setSp _ s

theorem settleIp (m : MemMode) (W : Width) (s : State) : Ordinary (isIpp (.mem m)) s (s.settleIp m W) := by
  cases m with
  | ipp =>
    cases h : s.ps.ind <;> constructor <;> simp [State.settleIp, h, isIpp]
  | _ => exact refl s

theorem consume (o : Operand) (W : Width) (s : State) : Ordinary (isIpp o) s (s.consume o W) := by
  cases o with
  | imm v => exact refl s
  | mem m => exact (countReads _ s).trans (settleIp m W _)

theorem store (m : MemMode) (W : Width) (v : Word) (s : State) :
    Ordinary (isIpp (.mem m)) s (s.store m W v) :=
  ((countReads _ s).trans (writeMem _ W v _)).trans (settleIp m W _)

theorem modify (m : MemMode) (W : Width) (v : Word) (s : State) :
    Ordinary (isIpp (.mem m)) s (s.modify m W v) :=
  ((countReads _ s).trans (writeMem _ W v _)).trans (settleIp m W _)

theorem push8 (v : Byte) (s : State) : Ordinary ipp s (s.push8 v) :=
  (writeByte _ v s).trans (setSp _ _)

theorem push16 (v : Word) (s : State) : Ordinary ipp s (s.push16 v) :=
  (push8 _ s).trans (push8 _ _)

theorem pushW (W : Width) (v : Word) (s : State) : Ordinary ipp s (s.pushW W v) := by
  cases W with
  | byte => exact push8 _ s
  | word => exact push16 _ s

theorem pull8 (s : State) : Ordinary ipp s s.pull8.st :=
  (setSp _ s).trans (countReads 1 _)

theorem pull16 (s : State) : Ordinary ipp s s.pull16.st :=
  (pull8 s).trans (pull8 _)

theorem pullW (W : Width) (s : State) : Ordinary ipp s (s.pullW W).st := by
  cases W with
  | byte => exact pull8 s
  | word => exact pull16 s

theorem markLscx (o : Operand) (s : State) : Ordinary ipp s (s.markLscx o) := by
  unfold State.markLscx
  split
  · exact setPs _ s
  · exact refl s

end Ordinary

/-! ## Flag computations keep MODE and BREAK -/

@[simp] theorem getFlag_flagsNZ (f : Flag) (W : Width) (v : Word) (p : Byte) :
    getFlag f (flagsNZ W v p) =
      if f = .n then msbW W v else if f = .z then decide (maskW W v = 0#16) else getFlag f p := by
  simp [flagsNZ]

@[simp] theorem getFlag_binFlags (f : Flag) (W : Width) (r : BinSum) (p : Byte) :
    getFlag f (binFlags W r p) =
      if f = .n then msbW W r.r else if f = .z then decide (maskW W r.r = 0#16)
      else if f = .v then r.v else if f = .c then r.c else getFlag f p := by
  simp [binFlags]

@[simp] theorem getFlag_decFlags (f : Flag) (r : DecSum) (p : Byte) :
    getFlag f (decFlags r p) =
      if f = .z then r.z else if f = .n then r.n else if f = .v then r.v else if f = .c then r.c
      else getFlag f p := by
  simp [decFlags]

@[simp] theorem getFlag_cmpFlags (f : Flag) (W : Width) (a m : Word) (p : Byte) :
    getFlag f (cmpFlags W a m p) =
      let r := subBin W a m true
      if f = .v then (match W with | .byte => getFlag f p | .word => r.v)
      else if f = .n then msbW W r.r else if f = .z then decide (maskW W r.r = 0#16)
      else if f = .c then r.c else getFlag f p := by
  cases W <;> cases f <;> simp [cmpFlags]

@[simp] theorem getFlag_bitFlags (f : Flag) (W : Width) (a m : Word) (p : Byte) :
    getFlag f (bitFlags W a m p) =
      if f = .v then m.getLsbD (W.bits - 2) else if f = .n then msbW W m
      else if f = .z then decide (a &&& m = 0#16) else getFlag f p := by
  simp [bitFlags]

@[simp] theorem getFlag_testFlags (f : Flag) (a m : Word) (p : Byte) :
    getFlag f (testFlags a m p) = if f = .z then decide (a &&& m = 0#16) else getFlag f p := by
  simp [testFlags]

@[simp] theorem getFlag_shifted (f : Flag) (W : Width) (r : Word) (c : Bool) (p : Byte) :
    getFlag f (shifted W r c p).p =
      if f = .n then msbW W r else if f = .z then decide (maskW W r = 0#16)
      else if f = .c then c else getFlag f p := by
  simp [shifted]

/-- A value transform leaves MODE and BREAK. -/
def KeepsModeAndBreak (f : Width → Word → Byte → Shifted) : Prop :=
  ∀ W v p, getFlag .m (f W v p).p = getFlag .m p ∧ getFlag .b (f W v p).p = getFlag .b p

theorem aslFn_keeps : KeepsModeAndBreak aslFn := fun W v p => by simp [aslFn]
theorem lsrFn_keeps : KeepsModeAndBreak lsrFn := fun W v p => by simp [lsrFn]
theorem rolFn_keeps : KeepsModeAndBreak rolFn := fun W v p => by simp [rolFn]
theorem rorFn_keeps : KeepsModeAndBreak rorFn := fun W v p => by simp [rorFn]
theorem incFn_keeps : KeepsModeAndBreak incFn := fun W v p => by simp [incFn]
theorem decFn_keeps : KeepsModeAndBreak decFn := fun W v p => by simp [decFn]

/-! ## The shared operations are ordinary -/

section

variable {s t : State}

theorem loadInto_ordinary (d : DataReg) (o : Operand) (s : State) : Ordinary (isIpp o) s (loadInto d o s) :=
  ((Ordinary.consume o _ s).trans (Ordinary.wrReg d _ _ _)).trans (Ordinary.mapP _ _ (by simp) (by simp))

theorem loadReg_ordinary {r : RegName} {o : Operand} (h : loadReg r o s = .next t) : Ordinary (isIpp o) s t := by
  obtain ⟨-, rfl⟩ := guardExchange_eq_next.1 h
  exact loadInto_ordinary _ o s

theorem loadX_ordinary {o : Operand} (h : loadX o s = .next t) : Ordinary (isIpp o) s t := by
  obtain ⟨-, rfl⟩ := guardExchange_eq_next.1 h
  exact (Ordinary.markLscx o s).trans (loadInto_ordinary _ o _)

theorem storeReg_ordinary {r : RegName} {m : MemMode} (h : storeReg r m s = .next t) :
    Ordinary (isIpp (.mem m)) s t := by
  obtain ⟨-, rfl⟩ := guardExchange_eq_next.1 h
  exact Ordinary.store m _ _ s

theorem storeX_ordinary {m : MemMode} (h : storeX m s = .next t) : Ordinary (isIpp (.mem m)) s t := by
  obtain ⟨-, rfl⟩ := guardExchange_eq_next.1 h
  exact (Ordinary.markLscx _ s).trans (Ordinary.store m _ _ _)

theorem storeZero_ordinary {m : MemMode} (h : storeZero m s = .next t) : Ordinary (isIpp (.mem m)) s t := by
  obtain ⟨-, rfl⟩ := guardExchange_eq_next.1 h
  exact Ordinary.store m _ _ s

theorem transfer_ordinary {src dst : RegName} (h : transfer src dst s = .next t) : Ordinary false s t := by
  obtain ⟨-, rfl⟩ := guardExchange_eq_next.1 h
  exact (Ordinary.wrReg _ _ _ s).trans (Ordinary.mapP _ _ (by simp) (by simp))

theorem addWithCarry_ordinary {o : Operand} (h : addWithCarry o s = .next t) : Ordinary (isIpp o) s t := by
  obtain ⟨-, rfl⟩ := guardExchange_eq_next.1 h
  split
  · exact ((Ordinary.consume o _ s).trans (Ordinary.wrReg _ _ _ _)).trans (Ordinary.mapP _ _ (by simp) (by simp))
  · exact ((Ordinary.consume o _ s).trans (Ordinary.wrReg _ _ _ _)).trans (Ordinary.mapP _ _ (by simp) (by simp))

theorem subWithCarry_ordinary {o : Operand} (h : subWithCarry o s = .next t) : Ordinary (isIpp o) s t := by
  obtain ⟨-, rfl⟩ := guardExchange_eq_next.1 h
  split
  · exact ((Ordinary.consume o _ s).trans (Ordinary.wrReg _ _ _ _)).trans (Ordinary.mapP _ _ (by simp) (by simp))
  · exact ((Ordinary.consume o _ s).trans (Ordinary.wrReg _ _ _ _)).trans (Ordinary.mapP _ _ (by simp) (by simp))

theorem logic_ordinary {f : Word → Word → Word} {o : Operand} (h : logic f o s = .next t) :
    Ordinary (isIpp o) s t := by
  obtain ⟨-, rfl⟩ := guardExchange_eq_next.1 h
  exact ((Ordinary.consume o _ s).trans (Ordinary.wrReg _ _ _ _)).trans (Ordinary.mapP _ _ (by simp) (by simp))

theorem compareReg_ordinary {r : RegName} {o : Operand} (h : compareReg r o s = .next t) :
    Ordinary (isIpp o) s t := by
  obtain ⟨-, rfl⟩ := guardExchange_eq_next.1 h
  exact (Ordinary.consume o _ s).trans (Ordinary.mapP _ _ (by simp) (by simp))

theorem compareX_ordinary {o : Operand} (h : compareX o s = .next t) : Ordinary (isIpp o) s t := by
  obtain ⟨-, rfl⟩ := guardExchange_eq_next.1 h
  exact ((Ordinary.markLscx o s).trans (Ordinary.consume o _ _)).trans (Ordinary.mapP _ _ (by simp) (by simp))

theorem bitMem_ordinary {m : MemMode} (h : bitMem m s = .next t) : Ordinary (isIpp (.mem m)) s t := by
  obtain ⟨-, rfl⟩ := guardExchange_eq_next.1 h
  exact (Ordinary.consume _ _ s).trans (Ordinary.mapP _ _ (by simp) (by simp))

theorem bitImmediate_ordinary {v : Word} (h : bitImmediate v s = .next t) : Ordinary false s t := by
  obtain ⟨-, rfl⟩ := guardExchange_eq_next.1 h
  exact Ordinary.mapP _ _ (by simp) (by simp)

theorem rmwMem_ordinary {f : Width → Word → Byte → Shifted} {m : MemMode} (hf : KeepsModeAndBreak f)
    (h : rmwMem f m s = .next t) : Ordinary (isIpp (.mem m)) s t := by
  obtain ⟨-, rfl⟩ := guardExchange_eq_next.1 h
  exact (Ordinary.modify m _ _ s).trans
    (Ordinary.mapP _ _ (by simpa using (hf _ _ _).1) (by simpa using (hf _ _ _).2))

theorem rmwReg_ordinary {f : Width → Word → Byte → Shifted} {r : RegName} (hf : KeepsModeAndBreak f)
    (h : rmwReg f r s = .next t) : Ordinary false s t := by
  obtain ⟨-, rfl⟩ := guardExchange_eq_next.1 h
  exact (Ordinary.wrReg _ _ _ s).trans
    (Ordinary.mapP _ _ (by simpa using (hf _ _ _).1) (by simpa using (hf _ _ _).2))

theorem arithShift_ordinary (h : arithShift s = .next t) : Ordinary false s t := by
  obtain ⟨-, rfl⟩ := guardExchange_eq_next.1 h
  exact (Ordinary.wrReg _ _ _ s).trans (Ordinary.mapP _ _ (by simp [asrFn]) (by simp [asrFn]))

theorem testModify_ordinary {f : Word → Word → Word} {m : MemMode} (h : testModify f m s = .next t) :
    Ordinary (isIpp (.mem m)) s t := by
  obtain ⟨-, rfl⟩ := guardExchange_eq_next.1 h
  exact (Ordinary.modify m _ _ s).trans (Ordinary.mapP _ _ (by simp) (by simp))

theorem changeBit_ordinary {n : Nat} {v : Bool} {m : MemMode} (h : changeBit n v m s = .next t) :
    Ordinary (isIpp (.mem m)) s t := by
  obtain rfl := (Host.Outcome.next.inj h).symm
  exact Ordinary.modify m _ _ s

theorem branchBit_ordinary {n : Nat} {v : Bool} {z r : Byte} (h : branchBit n v z r s = .next t) :
    Ordinary false s t := by
  obtain rfl := (Host.Outcome.next.inj h).symm
  split
  · exact (Ordinary.consume (.mem (.zp z)) .byte s).trans (Ordinary.setPc _ _)
  · exact Ordinary.consume (.mem (.zp z)) .byte s

theorem pushReg_ordinary {r : RegName} (h : pushReg r s = .next t) : Ordinary false s t := by
  obtain ⟨-, rfl⟩ := guardExchange_eq_next.1 h
  exact Ordinary.pushW _ _ s

theorem pullReg_ordinary {r : RegName} (h : pullReg r s = .next t) : Ordinary false s t := by
  obtain ⟨-, rfl⟩ := guardExchange_eq_next.1 h
  exact ((Ordinary.pullW _ s).trans (Ordinary.wrReg _ _ _ _)).trans (Ordinary.mapP _ _ (by simp) (by simp))

theorem moveStack_ordinary {f : RegStack → RegStack} (h : moveStack f s = .next t) : Ordinary false s t := by
  obtain ⟨-, rfl⟩ := guardExchange_eq_next.1 h
  exact Ordinary.setStack _ _ s

theorem branchIf_ordinary {c : Bool} {w : Word} (h : branchIf c w s = .next t) : Ordinary false s t := by
  obtain rfl := (Host.Outcome.next.inj h).symm
  split
  · exact Ordinary.setPc _ s
  · exact Ordinary.refl s

theorem putFlag_ordinary {f : Flag} {v : Bool} (hm : f ≠ .m) (hb : f ≠ .b) (h : putFlag f v s = .next t) :
    Ordinary false s t := by
  obtain rfl := (Host.Outcome.next.inj h).symm
  exact Ordinary.mapP (setFlag f v) s (by simp [hm.symm]) (by simp [hb.symm])

theorem setPrefix_ordinary {f : PrefixState → PrefixState} (h : setPrefix f s = .next t) : Ordinary false s t := by
  obtain rfl := (Host.Outcome.next.inj h).symm
  exact Ordinary.setPs _ s

end

end Sys2Proof.Machine
end

