-- ==== Sys2Proof/Laws/Forms.lean ====
section
/-! SUPPORT. The meaning of an instruction by its form: one equation for all instructions of a form, and a case split on
the form in place of 236 constructors. -/

namespace Sys2Proof.Machine

open Sys2Proof.Safety

/-- A meaning that has a memory form alone: no instruction gives it an immediate. -/
def onMem (f : MemMode → State → Result) (o : Operand) (s : State) : Result :=
  match o with
  | .mem m => f m s
  | .imm _ => .next s

/-- BIT, whose two forms differ. -/
def bitMeaning (o : Operand) (s : State) : Result :=
  match o with
  | .mem m => bitMem m s
  | .imm v => bitImmediate v s

/-- What a data operation does with its operand. -/
def dataMeaning (op : IppOp) (o : Operand) (s : State) : Result :=
  match op with
  | .lda => loadReg .a o s
  | .ldx => loadX o s
  | .ldy => loadReg .y o s
  | .adc => addWithCarry o s
  | .sbc => subWithCarry o s
  | .and => logic (· &&& ·) o s
  | .ora => logic (· ||| ·) o s
  | .eor => logic (· ^^^ ·) o s
  | .cmp => compareReg .a o s
  | .cpx => compareX o s
  | .cpy => compareReg .y o s
  | .bit => bitMeaning o s
  | .sta => onMem (storeReg .a) o s
  | .stx => onMem storeX o s
  | .sty => onMem (storeReg .y) o s
  | .stz => onMem storeZero o s
  | .asl => onMem (rmwMem aslFn) o s
  | .lsr => onMem (rmwMem lsrFn) o s
  | .rol => onMem (rmwMem rolFn) o s
  | .ror => onMem (rmwMem rorFn) o s
  | .inc => onMem (rmwMem incFn) o s
  | .dec => onMem (rmwMem decFn) o s
  | .tsb => onMem (testModify (fun v a => v ||| a)) o s
  | .trb => onMem (testModify (fun v a => v &&& ~~~a)) o s
  | .rmb n => onMem (changeBit n.val false) o s
  | .smb n => onMem (changeBit n.val true) o s

/-- The value transform of a shift, rotate, increment or decrement. -/
def shiftFn : IppOp → Width → Word → Byte → Shifted
  | .asl => aslFn
  | .lsr => lsrFn
  | .rol => rolFn
  | .ror => rorFn
  | .inc => incFn
  | _ => decFn

theorem shiftFn_keeps (op : IppOp) : KeepsModeAndBreak (shiftFn op) := by
  cases op <;> first
    | exact aslFn_keeps
    | exact lsrFn_keeps
    | exact rolFn_keeps
    | exact rorFn_keeps
    | exact incFn_keeps
    | exact decFn_keeps

/-- The condition of a branch. -/
def condition (c : Option (Flag × Bool)) (p : Byte) : Bool :=
  match c with
  | none => true
  | some (f, v) => getFlag f p == v

/-- A case split on the form of an instruction. -/
theorem form_cases {C : Instr → Prop}
    (data : ∀ i op o, dataForm i = some (op, o) → C i)
    (register : ∀ i op r, registerForm i = some (op, r) → C i)
    (rel : ∀ i c r, relForm i = some (c, r) → C i)
    (rel16 : ∀ i c r, rel16Form i = some (c, r) → C i)
    (bitBranch : ∀ i n b z r, bitBranchForm i = some (n, b, z, r) → C i)
    (transfer : ∀ i src dst, transferForm i = some (src, dst) → C i)
    (push : ∀ i r, pushForm i = some r → C i)
    (pull : ∀ i r, pullForm i = some r → C i)
    (flag : ∀ i f v, flagForm i = some (f, v) → C i)
    (isPre : ∀ i, isPrefix i = true → C i)
    (asr : C .asr) (txs : C .txs) (tsx : C .tsx) (dup : C .dup) (swp : C .swp) (rot : C .rot)
    (php : C .php) (plp : C .plp) (jsr : ∀ a, C (.jsr a)) (jmpAbs : ∀ a, C (.jmpAbs a))
    (jmpAbsI : ∀ a, C (.jmpAbsI a)) (jmpAbsXI : ∀ a, C (.jmpAbsXI a)) (rts : C .rts) (brk : C .brk) (rti : C .rti)
    (nop : C .nop) (nxt : C .nxt) (ent : C .ent) (phi : C .phi) (pli : C .pli) (ini : C .ini) :
    ∀ i, C i := by
  intro i
  cases i <;> first
    | exact data _ _ _ rfl
    | exact register _ _ _ rfl
    | exact rel _ _ _ rfl
    | exact rel16 _ _ _ rfl
    | exact bitBranch _ _ _ _ _ rfl
    | exact transfer _ _ _ rfl
    | exact push _ _ rfl
    | exact pull _ _ rfl
    | exact flag _ _ _ rfl
    | exact isPre _ rfl
    | assumption
    | exact jsr _
    | exact jmpAbs _
    | exact jmpAbsI _
    | exact jmpAbsXI _

/-! ## One equation for a form -/

theorem exec_of_dataForm {i : Instr} {op : IppOp} {o : Operand} (h : dataForm i = some (op, o)) :
    exec i = dataMeaning op o := by
  cases i <;> first
    | (cases h; rfl)
    | nomatch h

theorem exec_of_registerForm {i : Instr} {op : IppOp} {r : RegName} (h : registerForm i = some (op, r)) (s : State)
    (hl : i = .lsrAcc → (s.ps.ind && s.ps.siz) = false) : exec i s = rmwReg (shiftFn op) r s := by
  cases i <;> first
    | (cases h; rfl)
    | (cases h; show execLsrAcc s = _; rw [execLsrAcc, hl rfl]; rfl)
    | nomatch h

theorem exec_of_transferForm {i : Instr} {src dst : RegName} (h : transferForm i = some (src, dst)) :
    exec i = transfer src dst := by
  cases i <;> first
    | (cases h; rfl)
    | nomatch h

theorem exec_of_pushForm {i : Instr} {r : RegName} (h : pushForm i = some r) : exec i = pushReg r := by
  cases i <;> first
    | (cases h; rfl)
    | nomatch h

theorem exec_of_pullForm {i : Instr} {r : RegName} (h : pullForm i = some r) : exec i = pullReg r := by
  cases i <;> first
    | (cases h; rfl)
    | nomatch h

theorem exec_of_flagForm {i : Instr} {f : Flag} {v : Bool} (h : flagForm i = some (f, v)) :
    exec i = putFlag f v := by
  cases i <;> first
    | (cases h; rfl)
    | nomatch h

theorem exec_of_bitBranchForm {i : Instr} {n : Fin 8} {b : Bool} {z r : Byte}
    (h : bitBranchForm i = some (n, b, z, r)) : exec i = branchBit n.val b z r := by
  cases i <;> first
    | (cases h; rfl)
    | nomatch h

theorem exec_of_relForm {i : Instr} {c : Option (Flag × Bool)} {r : Byte} (h : relForm i = some (c, r)) (s : State) :
    exec i s = branchIf (condition c s.p) (s.relTarget r) s := by
  have hc : ∀ f v, (getFlag f s.p == v) = (if v then getFlag f s.p else !getFlag f s.p) := by
    intro f v
    cases v <;> cases getFlag f s.p <;> rfl
  cases i <;> first
    | (cases h; rfl)
    | (cases h; rw [condition, hc]; rfl)
    | nomatch h

theorem exec_of_rel16Form {i : Instr} {c : Option (Flag × Bool)} {r : Word} (h : rel16Form i = some (c, r))
    (s : State) : exec i s = branchIf (condition c s.p) (s.rel16Target r) s := by
  have hc : ∀ f v, (getFlag f s.p == v) = (if v then getFlag f s.p else !getFlag f s.p) := by
    intro f v
    cases v <;> cases getFlag f s.p <;> rfl
  cases i <;> first
    | (cases h; rfl)
    | (cases h; rw [condition, hc]; rfl)
    | nomatch h

/-- An ipp-mode operation is the data operation with its operand in ipp mode. -/
theorem execIpp_eq (op : IppOp) : execIpp op = dataMeaning op (.mem .ipp) := by
  cases op <;> rfl

theorem onMem_ordinary {f : MemMode → State → Result} {o : Operand} {s t : State}
    (hf : ∀ m, f m s = .next t → Ordinary (isIpp (.mem m)) s t) (h : onMem f o s = .next t) :
    Ordinary (isIpp o) s t := by
  cases o with
  | imm v => cases h; exact Ordinary.refl _
  | mem m => exact hf m h

/-- A data operation is ordinary. -/
theorem dataMeaning_ordinary {op : IppOp} {o : Operand} {s t : State} (h : dataMeaning op o s = .next t) :
    Ordinary (isIpp o) s t := by
  cases op with
  | lda => exact loadReg_ordinary h
  | ldx => exact loadX_ordinary h
  | ldy => exact loadReg_ordinary h
  | adc => exact addWithCarry_ordinary h
  | sbc => exact subWithCarry_ordinary h
  | and => exact logic_ordinary h
  | ora => exact logic_ordinary h
  | eor => exact logic_ordinary h
  | cmp => exact compareReg_ordinary h
  | cpx => exact compareX_ordinary h
  | cpy => exact compareReg_ordinary h
  | bit =>
    cases o with
    | imm v => exact bitImmediate_ordinary h
    | mem m => exact bitMem_ordinary h
  | sta => exact onMem_ordinary (fun _ => storeReg_ordinary) h
  | stx => exact onMem_ordinary (fun _ => storeX_ordinary) h
  | sty => exact onMem_ordinary (fun _ => storeReg_ordinary) h
  | stz => exact onMem_ordinary (fun _ => storeZero_ordinary) h
  | asl => exact onMem_ordinary (fun _ => rmwMem_ordinary aslFn_keeps) h
  | lsr => exact onMem_ordinary (fun _ => rmwMem_ordinary lsrFn_keeps) h
  | rol => exact onMem_ordinary (fun _ => rmwMem_ordinary rolFn_keeps) h
  | ror => exact onMem_ordinary (fun _ => rmwMem_ordinary rorFn_keeps) h
  | inc => exact onMem_ordinary (fun _ => rmwMem_ordinary incFn_keeps) h
  | dec => exact onMem_ordinary (fun _ => rmwMem_ordinary decFn_keeps) h
  | tsb => exact onMem_ordinary (fun _ => testModify_ordinary) h
  | trb => exact onMem_ordinary (fun _ => testModify_ordinary) h
  | rmb n => exact onMem_ordinary (fun _ => changeBit_ordinary) h
  | smb n => exact onMem_ordinary (fun _ => changeBit_ordinary) h

/-- The instructions that are not ordinary: a trap, the return from one, the pull of P, and four of the Forth words. -/
def isSpecial : Instr → Bool
  | .brk => true
  | .rti => true
  | .plp => true
  | .nxt => true
  | .ent => true
  | .pli => true
  | .ini => true
  | _ => false

/-- A prefix changes PrefixState and nothing else. -/
theorem exec_of_isPrefix {i : Instr} (hp : isPrefix i = true) (s : State) :
    ∃ ps, exec i s = .next { s with ps := ps } := by
  have ho : ∃ ps, execOis s = .next { s with ps := ps } := by
    unfold execOis
    split <;> exact ⟨_, rfl⟩
  cases i <;> first
    | exact ho
    | exact ⟨_, rfl⟩
    | nomatch hp

/-- Every other instruction is ordinary. -/
theorem exec_ordinary {i : Instr} : ∀ {s t : State}, isSpecial i = false → exec i s = .next t → Ordinary false s t := by
  induction i using form_cases with
  | data i op o hf =>
    intro s t _ h
    rw [exec_of_dataForm hf] at h
    have ho : isIpp o = false := by
      cases i <;> first
        | (cases hf; rfl)
        | nomatch hf
    exact ho ▸ dataMeaning_ordinary h
  | register i op r hf =>
    intro s t _ h
    by_cases hl : i = .lsrAcc → (s.ps.ind && s.ps.siz) = false
    · rw [exec_of_registerForm hf s hl] at h
      exact rmwReg_ordinary (shiftFn_keeps op) h
    · obtain ⟨rfl, hl'⟩ : i = .lsrAcc ∧ (s.ps.ind && s.ps.siz) = true := by simpa using hl
      have h : execLsrAcc s = .next t := h
      rw [execLsrAcc, if_pos hl'] at h
      exact arithShift_ordinary h
  | rel i c r hf =>
    intro s t _ h
    rw [exec_of_relForm hf] at h
    exact branchIf_ordinary h
  | rel16 i c r hf =>
    intro s t _ h
    rw [exec_of_rel16Form hf] at h
    exact branchIf_ordinary h
  | bitBranch i n b z r hf =>
    intro s t _ h
    rw [exec_of_bitBranchForm hf] at h
    exact branchBit_ordinary h
  | transfer i src dst hf =>
    intro s t _ h
    rw [exec_of_transferForm hf] at h
    exact transfer_ordinary h
  | push i r hf =>
    intro s t _ h
    rw [exec_of_pushForm hf] at h
    exact pushReg_ordinary h
  | pull i r hf =>
    intro s t _ h
    rw [exec_of_pullForm hf] at h
    exact pullReg_ordinary h
  | flag i f v hf =>
    intro s t _ h
    rw [exec_of_flagForm hf] at h
    have hm : f ≠ .m ∧ f ≠ .b := by
      cases i <;> first
        | (cases hf; decide)
        | nomatch hf
    exact putFlag_ordinary hm.1 hm.2 h
  | isPre i hp =>
    intro s t _ h
    obtain ⟨ps, hps⟩ := exec_of_isPrefix hp s
    rw [hps] at h
    cases h
    exact Ordinary.setPs ps s
  | asr =>
    intro s t _ h
    exact arithShift_ordinary h
  | txs =>
    intro s t _ h
    obtain ⟨-, rfl⟩ := guardExchange_eq_next.1 h
    exact Ordinary.wrReg _ _ _ s
  | tsx =>
    intro s t _ h
    obtain ⟨-, rfl⟩ := guardExchange_eq_next.1 h
    exact (Ordinary.wrReg _ _ _ s).trans (Ordinary.mapP _ _ (by simp) (by simp))
  | dup =>
    intro s t _ h
    change execDup s = .next t at h
    rw [execDup] at h
    exact moveStack_ordinary h
  | swp =>
    intro s t _ h
    change execSwp s = .next t at h
    rw [execSwp] at h
    exact moveStack_ordinary h
  | rot =>
    intro s t _ h
    change execRot s = .next t at h
    rw [execRot] at h
    exact moveStack_ordinary h
  | php =>
    intro s t _ h
    cases h
    exact Ordinary.push8 _ s
  | phi =>
    intro s t _ h
    cases h
    exact Ordinary.push16 _ s
  | jsr a =>
    intro s t _ h
    cases h
    exact ((Ordinary.countReads _ s).trans (Ordinary.push16 _ _)).trans (Ordinary.setPc _ _)
  | jmpAbs a =>
    intro s t _ h
    cases h
    exact (Ordinary.countReads _ s).trans (Ordinary.setPc _ _)
  | jmpAbsI a =>
    intro s t _ h
    cases h
    exact (Ordinary.countReads _ s).trans (Ordinary.setPc _ _)
  | jmpAbsXI a =>
    intro s t _ h
    obtain ⟨-, rfl⟩ := guardExchange_eq_next.1 h
    exact (Ordinary.countReads _ s).trans (Ordinary.setPc _ _)
  | rts =>
    intro s t _ h
    cases h
    exact (Ordinary.pull16 s).trans (Ordinary.setPc _ _)
  | nop =>
    intro s t _ h
    cases h
    exact Ordinary.refl s
  | brk => intro s t hs; nomatch hs
  | rti => intro s t hs; nomatch hs
  | plp => intro s t hs; nomatch hs
  | nxt => intro s t hs; nomatch hs
  | ent => intro s t hs; nomatch hs
  | pli => intro s t hs; nomatch hs
  | ini => intro s t hs; nomatch hs

end Sys2Proof.Machine
end

