-- ==== Sys2Proof/Laws/Registers.lean ====
section
/-! SUPPORT. What a register write, an operand access and a store do, once each, in the terms of the statements. -/

namespace Sys2Proof.Machine

open Sys2Proof.Safety

/-! ## Registers -/

theorem sameRegisters_of {s t : State} (a : t.a = s.a) (x : t.x = s.x) (y : t.y = s.y) : SameRegisters s t := by
  intro q
  cases q <;> simp [State.stack, a, x, y]

/-- The high byte of one word over the low byte of another. -/
theorem replaceLow_toNat (h : Word) (l : Byte) :
    ((h &&& 0xFF00#16) ||| zext l).toNat = h.toNat / 256 * 256 + l.toNat := by
  have hs : (h &&& 0xFF00#16).toNat = (h.toNat / 256) <<< 8 := by rw [and_ff00_toNat, Nat.shiftLeft_eq]
  have hl : l.toNat < 2 ^ 8 := l.isLt
  rw [BitVec.toNat_or, hs, zext_toNat, ← Nat.shiftLeft_add_eq_or_of_lt hl, Nat.shiftLeft_eq]

@[simp] theorem hiByte_replaceLow (h : Word) (l : Byte) : hiByte ((h &&& 0xFF00#16) ||| zext l) = hiByte h := by
  have := l.isLt
  apply BitVec.eq_of_toNat_eq
  rw [hiByte_toNat, hiByte_toNat, replaceLow_toNat]
  omega

@[simp] theorem loByte_replaceLow (h : Word) (l : Byte) : loByte ((h &&& 0xFF00#16) ||| zext l) = l := by
  have := l.isLt
  apply BitVec.eq_of_toNat_eq
  rw [loByte_toNat, replaceLow_toNat]
  omega

/-- What a byte write leaves in a slot. -/
theorem byteWritten_spec (b : ByteWriteHigh) (o v : Word) :
    loByte (byteWritten b o v) = loByte v ∧
    hiByte (byteWritten b o v) = (match b with | .zero => 0#8 | .preserve => hiByte o) := by
  cases b <;> simp [byteWritten]

theorem State.slot0_setSlot0 (r q : RegName) (v : Word) (s : State) :
    (s.setSlot0 r v).slot0 q = if q = r then v else s.slot0 q := by
  cases r <;> cases q <;> simp [State.setSlot0, State.slot0, State.stack, State.setStack]

theorem State.setSlot0_sameBut (r : RegName) (v : Word) (s : State) : SameRegistersBut r s (s.setSlot0 r v) := by
  cases r <;> refine ⟨?_, rfl, rfl⟩ <;> intro q hq <;>
    cases q <;> simp_all [State.setSlot0, State.stack, State.setStack]

/-- A write to a register slot: the slot, and nothing else. -/
theorem State.wrReg_slot_spec (r : RegName) (W : Width) (v : Word) (s : State) :
    SlotHolds r W v s (s.wrReg (.slot r) W v) ∧ SameRegistersBut r s (s.wrReg (.slot r) W v) ∧
    SameStackPointers s (s.wrReg (.slot r) W v) := by
  cases W with
  | byte =>
    refine ⟨?_, State.setSlot0_sameBut _ _ _, ?_⟩
    · simp only [SlotHolds, State.wrReg, State.slot0_setSlot0, if_true]
      exact byteWritten_spec _ _ _
    · cases r <;> exact ⟨rfl, rfl⟩
  | word =>
    refine ⟨?_, State.setSlot0_sameBut _ _ _, ?_⟩
    · simp only [SlotHolds, State.wrReg, State.slot0_setSlot0, if_true]
    · cases r <;> exact ⟨rfl, rfl⟩

theorem State.setSp_inactive (v : Word) (s : State) : SameInactivePointer s (s.setSp v) := by
  constructor <;> intro h <;> simp [State.setSp_spUser, State.setSp_spKernel, h]

/-- A write to S used as a register: the active pointer, and nothing else. -/
theorem State.wrReg_sp_spec (W : Width) (v : Word) (s : State) :
    PointerHolds W v s (s.wrReg .sp W v) ∧ SameRegisters s (s.wrReg .sp W v) ∧
    SameInactivePointer s (s.wrReg .sp W v) := by
  cases W with
  | byte =>
    refine ⟨?_, ?_, State.setSp_inactive _ _⟩
    · simp [PointerHolds, State.wrReg]
    · apply sameRegisters_of <;> simp [State.wrReg]
  | word =>
    refine ⟨?_, ?_, State.setSp_inactive _ _⟩
    · simp [PointerHolds, State.wrReg]
    · apply sameRegisters_of <;> simp [State.wrReg]

theorem flagsOfValue_of {W : Width} {v : Word} {s t : State} (h : t.p = flagsNZ W v s.p) :
    FlagsOfValue W v [] s t := by
  refine ⟨by simp [h], by simp [h], ?_⟩
  intro f hf
  simp only [List.mem_cons, List.not_mem_nil, or_false, not_or] at hf
  simp [h, hf]

/-! ## Operands -/

/-- Reading an operand that is not in ipp mode counts its reads and does nothing else. -/
theorem State.consume_eq {o : Operand} (h : isIpp o = false) (W : Width) (s : State) :
    s.consume o W = s.countReads (operandReads s o W) := by
  cases o with
  | imm v => rfl
  | mem m => cases m <;> first | rfl | nomatch h

/-- A store to an operand that is not in ipp mode. -/
theorem State.store_eq {m : MemMode} (h : isIpp (.mem m) = false) (W : Width) (v : Word) (s : State) :
    s.store m W v = (s.countReads (s.pointerReads m)).writeMem (s.effAddr m) W v := by
  cases m <;> first | rfl | nomatch h

/-- A read-modify-write of an operand that is not in ipp mode. -/
theorem State.modify_eq {m : MemMode} (h : isIpp (.mem m) = false) (W : Width) (v : Word) (s : State) :
    s.modify m W v = (s.countReads (s.pointerReads m + W.bytes)).writeMem (s.effAddr m) W v := by
  cases m <;> first | rfl | nomatch h

/-- A datum written at an effective address is read back at the same width. -/
theorem State.readMem_writeMem (ea : EA) (W : Width) (v : Word) (s : State) (h : s.mem.wf = true) :
    (s.writeMem ea W v).readMem ea W = maskW W v := by
  cases W with
  | byte =>
    simp only [State.writeMem, State.readMem, State.readByte_writeByte_same _ _ _ h]
    rfl
  | word =>
    have hlo : ((s.writeByte ea.addr (loByte v)).writeByte ea.nextAddr (hiByte v)).readByte ea.addr = loByte v := by
      rw [State.readByte_writeByte_of_ne _ _ _ _ (EA.nextAddr_ne_addr ea).symm]
      exact State.readByte_writeByte_same _ _ _ h
    simp only [State.writeMem, State.readMem, State.readWord, hlo,
      State.readByte_writeByte_same _ _ _ (s.writeByte_wf _ _ h), mkWord_hiByte_loByte, maskW]

/-- A write at an effective address leaves every other byte. -/
theorem State.writeMem_sameBut (ea : EA) (W : Width) (v : Word) (s : State) :
    SameMemoryBut (bytesAt ea W) s (s.writeMem ea W v) := by
  intro a ha
  cases W with
  | byte =>
    simp only [bytesAt, List.mem_singleton] at ha
    exact State.readByte_writeByte_of_ne _ _ _ _ ha
  | word =>
    simp only [bytesAt, List.mem_cons, List.not_mem_nil, or_false, not_or] at ha
    exact (State.readByte_writeByte_of_ne _ _ _ _ ha.2).trans (State.readByte_writeByte_of_ne _ _ _ _ ha.1)

theorem State.writeMem_counters (ea : EA) (W : Width) (v : Word) (s : State) :
    (s.writeMem ea W v).counters = { s.counters with dataWrites := s.counters.dataWrites + W.bytes } := by
  cases W <;> rfl

/-! ## lscx -/

/-- LDX, STX and CPX compute their operand as if osx were clear (41_prefix.md R158). -/
theorem State.markLscx_operand {o : Operand} (h : isIpp o = false) (s : State) :
    let u : State := { s with ps := { s.ps with osx := false } }
    (∀ m, (s.markLscx o).effAddr m = u.effAddr m) ∧
    (∀ m, (s.markLscx o).pointerReads m = s.pointerReads m) ∧
    ∀ o' W, (s.markLscx o).operandValue o' W = u.operandValue o' W := by
  intro u
  have hon : (s.markLscx o).osxOn = false ∧ u.osxOn = false := by
    constructor
    · simp only [State.markLscx, h, State.osxOn]
      cases hx : s.ps.osx <;> simp [hx]
    · simp [u, State.osxOn]
  have hrho : ∀ r, (s.markLscx o).rho r = s.rho r := by
    intro r
    simp only [State.markLscx]
    split <;> rfl
  have hind : (s.markLscx o).ps.ind = s.ps.ind := by
    simp only [State.markLscx]
    split <;> rfl
  have hslot : ∀ r, (s.markLscx o).slot0 r = s.slot0 r := by
    intro r
    simp only [State.markLscx]
    split <;> rfl
  have hmem : (s.markLscx o).mem = u.mem := by simp [u]
  have hip : (s.markLscx o).ip = u.ip := by simp [u]
  have hidx : ∀ r, (s.markLscx o).idx r = u.idx r := by
    intro r
    simp only [State.idx, hrho, hslot]
    rfl
  have hword : ∀ ea, (s.markLscx o).readWord ea = u.readWord ea := State.readWord_congr hmem
  have hread : ∀ ea W, (s.markLscx o).readMem ea W = u.readMem ea W := by
    intro ea W
    cases W with
    | byte => simp only [State.readMem, State.readByte_congr hmem]
    | word => exact hword ea
  have heff : ∀ m, (s.markLscx o).effAddr m = u.effAddr m := by
    intro m
    have hw : ∀ ea, (s.markLscx o).withInd ea = u.withInd ea := by
      intro ea
      simp only [State.withInd, State.deref, hword, hind]
      rfl
    have h1 : ∀ z, (s.markLscx o).zpAddr z = u.zpAddr z := by
      intro z
      simp [State.zpAddr, hon]
    have h2 : ∀ z r, (s.markLscx o).zpIdxAddr z r = u.zpIdxAddr z r := by
      intro z r
      simp [State.zpIdxAddr, hon, hidx]
    have h3 : ∀ a, (s.markLscx o).absAddr a = u.absAddr a := by
      intro a
      simp [State.absAddr, hon]
    have h4 : ∀ a r, (s.markLscx o).absIdxAddr a r = u.absIdxAddr a r := by
      intro a r
      simp [State.absIdxAddr, hon, hidx]
    cases m <;> simp only [State.effAddr, hw, h1, h2, h3, h4, State.deref, hword, hidx, hip]
  refine ⟨heff, ?_, ?_⟩
  · intro m
    cases m <;> simp only [State.pointerReads, State.indReads, hind]
  · intro o' W
    cases o' with
    | imm v => rfl
    | mem m => simp only [State.operandValue, heff, hread]

theorem State.markLscx_ps {o : Operand} (h : isIpp o = false) (s : State) :
    (s.markLscx o).ps = { s.ps with lscx := s.ps.lscx || s.ps.osx } := by
  simp only [State.markLscx, h]
  cases hx : s.ps.osx with
  | true => simp
  | false =>
    cases hp : s.ps
    simp_all

/-- The data register of LDX, STX and CPX: S exactly under osx with OSX_REG_REDIRECT and no oax, else X under the
exchange. -/
theorem State.indexDataReg_eq {o : Operand} (h : isIpp o = false) (s : State) (hc : s.conflict = false) :
    s.indexDataReg o =
      if s.ps.osx = true ∧ s.cfg.osxRegRedirect = true ∧ s.ps.oax = false then .sp else .slot (s.rho .x) := by
  simp only [State.conflict] at hc
  simp only [State.indexDataReg, State.dataReg, h]
  cases h1 : s.ps.osx <;> cases h2 : s.cfg.osxRegRedirect <;> cases h3 : s.ps.oax <;> cases h4 : s.ps.oay <;>
    simp_all [State.rho]

end Sys2Proof.Machine
end

