-- ==== Sys2Proof/Laws/Ipp.lean ====
section
/-! SUPPORT. An ipp-mode operation is the absolute form of the same operation, addressed at IP with osx clear, and then
the move of IP (40_addressing.md R137, R138). -/

namespace Sys2Proof.Machine

open Sys2Proof.Safety

/-- The state with osx clear. -/
def osxCleared (s : State) : State := { s with ps := { s.ps with osx := false } }

/-- `t` with the prefix flags of `s` and with IP moved from that of `s` past a datum of width U, unless ind. -/
def movedFrom (s : State) (U : Width) (t : State) : State :=
  { t with ps := s.ps, ip := if s.ps.ind then s.ip else s.ip + BitVec.ofNat 16 U.bytes }

theorem guardExchange_movedFrom (s : State) (U : Width) (t : State) :
    andThen (movedFrom s U) (guardExchange (osxCleared s) t) = guardExchange s (movedFrom s U t) := by
  simp only [guardExchange, show (osxCleared s).conflict = s.conflict from rfl]
  split <;> rfl

theorem State.effAddr_ipp (s : State) : s.effAddr .ipp = (osxCleared s).effAddr (.abs s.ip) := by
  simp [State.effAddr, State.absAddr, State.osxOn, osxCleared, State.withInd, State.deref, State.readWord,
    State.readByte]

theorem State.operandValue_ipp (s : State) (W : Width) :
    s.operandValue (.mem .ipp) W = (osxCleared s).operandValue (.mem (.abs s.ip)) W := by
  simp only [State.operandValue, State.effAddr_ipp]
  cases W <;> rfl

theorem State.consume_ipp (s : State) (W : Width) :
    s.consume (.mem .ipp) W = movedFrom s W ((osxCleared s).consume (.mem (.abs s.ip)) W) := by
  simp only [State.consume, show s.pointerReads .ipp = (osxCleared s).pointerReads (.abs s.ip) from rfl,
    State.settleIp, movedFrom]
  cases h : s.ps.ind <;> simp [State.countReads, osxCleared, h]

theorem State.store_ipp (s : State) (W : Width) (v : Word) :
    s.store .ipp W v = movedFrom s W ((osxCleared s).store (.abs s.ip) W v) := by
  simp only [State.store, show s.pointerReads .ipp = (osxCleared s).pointerReads (.abs s.ip) from rfl,
    State.settleIp, movedFrom, State.effAddr_ipp]
  cases h : s.ps.ind <;> cases W <;> simp [State.countReads, State.writeMem, State.writeByte, osxCleared, h]

theorem State.modify_ipp (s : State) (W : Width) (v : Word) :
    s.modify .ipp W v = movedFrom s W ((osxCleared s).modify (.abs s.ip) W v) := by
  simp only [State.modify, show s.pointerReads .ipp = (osxCleared s).pointerReads (.abs s.ip) from rfl,
    State.settleIp, movedFrom, State.effAddr_ipp]
  cases h : s.ps.ind <;> cases W <;> simp [State.countReads, State.writeMem, State.writeByte, osxCleared, h]

theorem State.wrReg_movedFrom (s : State) (U : Width) (d : DataReg) (W : Width) (v : Word) (t : State) :
    (movedFrom s U t).wrReg d W v = movedFrom s U (t.wrReg d W v) := by
  cases d with
  | slot r => cases W <;> cases r <;> rfl
  | sp => cases hm : getFlag .m t.p <;> cases W <;> simp [State.wrReg, State.setSp, State.sp, movedFrom, hm]

theorem State.mapP_movedFrom (s : State) (U : Width) (f : Byte → Byte) (t : State) :
    (movedFrom s U t).mapP f = movedFrom s U (t.mapP f) := rfl

theorem State.indexDataReg_ipp (s : State) : s.indexDataReg (.mem .ipp) = s.dataReg .x := by
  simp [State.indexDataReg, isIpp]

theorem State.indexDataReg_osxCleared (s : State) (o : Operand) : (osxCleared s).indexDataReg o = s.dataReg .x := by
  simp [State.indexDataReg, osxCleared]
  rfl

theorem State.markLscx_ipp (s : State) : s.markLscx (.mem .ipp) = s := by simp [State.markLscx, isIpp]

theorem State.markLscx_osxCleared (s : State) (o : Operand) : (osxCleared s).markLscx o = osxCleared s := by
  simp [State.markLscx, osxCleared]

theorem loadReg_ipp (s : State) (r : RegName) :
    loadReg r (.mem .ipp) s = andThen (movedFrom s s.width) (loadReg r (.mem (.abs s.ip)) (osxCleared s)) := by
  simp only [loadReg, loadInto]
  rw [guardExchange_movedFrom, State.consume_ipp, State.wrReg_movedFrom, State.mapP_movedFrom, State.operandValue_ipp]
  rfl

theorem loadX_ipp (s : State) :
    loadX (.mem .ipp) s = andThen (movedFrom s s.width) (loadX (.mem (.abs s.ip)) (osxCleared s)) := by
  simp only [loadX, loadInto, State.markLscx_ipp, State.markLscx_osxCleared, State.indexDataReg_ipp,
    State.indexDataReg_osxCleared]
  rw [guardExchange_movedFrom, State.consume_ipp, State.wrReg_movedFrom, State.mapP_movedFrom, State.operandValue_ipp]
  rfl

theorem storeReg_ipp (s : State) (r : RegName) :
    storeReg r .ipp s = andThen (movedFrom s s.width) (storeReg r (.abs s.ip) (osxCleared s)) := by
  simp only [storeReg]
  rw [guardExchange_movedFrom, State.store_ipp]
  rfl

theorem storeX_ipp (s : State) :
    storeX .ipp s = andThen (movedFrom s s.width) (storeX (.abs s.ip) (osxCleared s)) := by
  simp only [storeX, State.markLscx_ipp, State.markLscx_osxCleared, State.indexDataReg_ipp,
    State.indexDataReg_osxCleared]
  rw [guardExchange_movedFrom, State.store_ipp]
  rfl

theorem storeZero_ipp (s : State) :
    storeZero .ipp s = andThen (movedFrom s s.width) (storeZero (.abs s.ip) (osxCleared s)) := by
  simp only [storeZero]
  rw [guardExchange_movedFrom, State.store_ipp]
  rfl

theorem addWithCarry_ipp (s : State) :
    addWithCarry (.mem .ipp) s = andThen (movedFrom s s.width) (addWithCarry (.mem (.abs s.ip)) (osxCleared s)) := by
  simp only [addWithCarry]
  rw [guardExchange_movedFrom, State.consume_ipp, State.operandValue_ipp]
  simp only [State.wrReg_movedFrom, State.mapP_movedFrom, ← apply_ite (movedFrom s s.width)]
  rfl

theorem subWithCarry_ipp (s : State) :
    subWithCarry (.mem .ipp) s = andThen (movedFrom s s.width) (subWithCarry (.mem (.abs s.ip)) (osxCleared s)) := by
  simp only [subWithCarry]
  rw [guardExchange_movedFrom, State.consume_ipp, State.operandValue_ipp]
  simp only [State.wrReg_movedFrom, State.mapP_movedFrom, ← apply_ite (movedFrom s s.width)]
  rfl

theorem logic_ipp (s : State) (f : Word → Word → Word) :
    logic f (.mem .ipp) s = andThen (movedFrom s s.width) (logic f (.mem (.abs s.ip)) (osxCleared s)) := by
  simp only [logic]
  rw [guardExchange_movedFrom, State.consume_ipp, State.wrReg_movedFrom, State.mapP_movedFrom, State.operandValue_ipp]
  rfl

theorem compareReg_ipp (s : State) (r : RegName) :
    compareReg r (.mem .ipp) s = andThen (movedFrom s s.width) (compareReg r (.mem (.abs s.ip)) (osxCleared s)) := by
  simp only [compareReg]
  rw [guardExchange_movedFrom, State.consume_ipp, State.mapP_movedFrom, State.operandValue_ipp]
  rfl

theorem compareX_ipp (s : State) :
    compareX (.mem .ipp) s = andThen (movedFrom s s.width) (compareX (.mem (.abs s.ip)) (osxCleared s)) := by
  simp only [compareX, State.markLscx_ipp, State.markLscx_osxCleared, State.indexDataReg_ipp,
    State.indexDataReg_osxCleared]
  rw [guardExchange_movedFrom, State.consume_ipp, State.mapP_movedFrom, State.operandValue_ipp]
  rfl

theorem bitMem_ipp (s : State) :
    bitMem .ipp s = andThen (movedFrom s s.width) (bitMem (.abs s.ip) (osxCleared s)) := by
  simp only [bitMem]
  rw [guardExchange_movedFrom, State.consume_ipp, State.mapP_movedFrom, State.operandValue_ipp]
  rfl

theorem rmwMem_ipp (s : State) (f : Width → Word → Byte → Shifted) :
    rmwMem f .ipp s = andThen (movedFrom s s.width) (rmwMem f (.abs s.ip) (osxCleared s)) := by
  simp only [rmwMem]
  rw [guardExchange_movedFrom, State.modify_ipp, State.mapP_movedFrom, State.operandValue_ipp]
  rfl

theorem testModify_ipp (s : State) (f : Word → Word → Word) :
    testModify f .ipp s = andThen (movedFrom s s.width) (testModify f (.abs s.ip) (osxCleared s)) := by
  simp only [testModify]
  rw [guardExchange_movedFrom, State.modify_ipp, State.mapP_movedFrom, State.operandValue_ipp]
  rfl

theorem changeBit_ipp (s : State) (n : Nat) (b : Bool) :
    changeBit n b .ipp s = andThen (movedFrom s .byte) (changeBit n b (.abs s.ip) (osxCleared s)) := by
  simp only [changeBit, State.modify_ipp, State.operandValue_ipp]
  rfl

end Sys2Proof.Machine
end

