-- ==== Sys2Proof/Laws/PerInstr.lean ====
section
/-! SUPPORT. The encoding of every instruction is between one and three bytes long, one lemma per constructor
(30_encoding.md R85, R86). -/

namespace Sys2Proof.Laws

/-- An instruction that has an encoding has one of one to three bytes (30_encoding.md R86). -/
def EncodedLength.Statement (i : Instr) : Prop :=
  ∀ (cfg : Config) (ps : PrefixState), i.wf cfg ps = true →
    1 ≤ (encode cfg ps i).length ∧ (encode cfg ps i).length ≤ 3

/-- A length from one to three, by evaluation. -/
theorem within {n : Nat} (h : Nat.ble 1 n = true) (h' : Nat.ble n 3 = true) : 1 ≤ n ∧ n ≤ 3 :=
  ⟨Nat.le_of_ble_eq_true h, Nat.le_of_ble_eq_true h'⟩

/-- An opcode byte and an immediate operand. -/
theorem length_opcode_encodeImm (op : Byte) (ps : PrefixState) (v : Word) :
    1 ≤ (op :: encodeImm ps v).length ∧ (op :: encodeImm ps v).length ≤ 3 := by
  unfold encodeImm
  split <;> simp

/-- An extension instruction with an opcode is one byte. -/
theorem length_encodeExt (cfg : Config) (e : ExtOp) (h : (cfg.extOpcode e).isSome = true) :
    1 ≤ (encodeExt cfg e).length ∧ (encodeExt cfg e).length ≤ 3 := by
  obtain ⟨op, h⟩ := Option.isSome_iff_exists.mp h
  simp [encodeExt, h]

namespace EncodedLength

theorem brk : Statement .brk := fun _ _ _ => within rfl rfl
theorem oraZpXI (z : Byte) : Statement (.oraZpXI z) := fun _ _ _ => within rfl rfl
theorem tsbZp (z : Byte) : Statement (.tsbZp z) := fun _ _ _ => within rfl rfl
theorem oraZp (z : Byte) : Statement (.oraZp z) := fun _ _ _ => within rfl rfl
theorem aslZp (z : Byte) : Statement (.aslZp z) := fun _ _ _ => within rfl rfl
theorem rmb0 (z : Byte) : Statement (.rmb0 z) := fun _ _ _ => within rfl rfl
theorem php : Statement .php := fun _ _ _ => within rfl rfl
theorem oraImm (v : Word) : Statement (.oraImm v) := fun _ ps _ => length_opcode_encodeImm _ ps v
theorem aslAcc : Statement .aslAcc := fun _ _ _ => within rfl rfl
theorem tsbAbs (a : Word) : Statement (.tsbAbs a) := fun _ _ _ => within rfl rfl
theorem oraAbs (a : Word) : Statement (.oraAbs a) := fun _ _ _ => within rfl rfl
theorem aslAbs (a : Word) : Statement (.aslAbs a) := fun _ _ _ => within rfl rfl
theorem bbr0 (z : Byte) (r : Byte) : Statement (.bbr0 z r) := fun _ _ _ => within rfl rfl
theorem bplRel (r : Byte) : Statement (.bplRel r) := fun _ _ _ => within rfl rfl
theorem oraZpIY (z : Byte) : Statement (.oraZpIY z) := fun _ _ _ => within rfl rfl
theorem oraZpI (z : Byte) : Statement (.oraZpI z) := fun _ _ _ => within rfl rfl
theorem trbZp (z : Byte) : Statement (.trbZp z) := fun _ _ _ => within rfl rfl
theorem oraZpX (z : Byte) : Statement (.oraZpX z) := fun _ _ _ => within rfl rfl
theorem aslZpX (z : Byte) : Statement (.aslZpX z) := fun _ _ _ => within rfl rfl
theorem rmb1 (z : Byte) : Statement (.rmb1 z) := fun _ _ _ => within rfl rfl
theorem clc : Statement .clc := fun _ _ _ => within rfl rfl
theorem oraAbsY (a : Word) : Statement (.oraAbsY a) := fun _ _ _ => within rfl rfl
theorem incAcc : Statement .incAcc := fun _ _ _ => within rfl rfl
theorem trbAbs (a : Word) : Statement (.trbAbs a) := fun _ _ _ => within rfl rfl
theorem oraAbsX (a : Word) : Statement (.oraAbsX a) := fun _ _ _ => within rfl rfl
theorem aslAbsX (a : Word) : Statement (.aslAbsX a) := fun _ _ _ => within rfl rfl
theorem bbr1 (z : Byte) (r : Byte) : Statement (.bbr1 z r) := fun _ _ _ => within rfl rfl
theorem jsr (a : Word) : Statement (.jsr a) := fun _ _ _ => within rfl rfl
theorem andZpXI (z : Byte) : Statement (.andZpXI z) := fun _ _ _ => within rfl rfl
theorem bitZp (z : Byte) : Statement (.bitZp z) := fun _ _ _ => within rfl rfl
theorem andZp (z : Byte) : Statement (.andZp z) := fun _ _ _ => within rfl rfl
theorem rolZp (z : Byte) : Statement (.rolZp z) := fun _ _ _ => within rfl rfl
theorem rmb2 (z : Byte) : Statement (.rmb2 z) := fun _ _ _ => within rfl rfl
theorem plp : Statement .plp := fun _ _ _ => within rfl rfl
theorem andImm (v : Word) : Statement (.andImm v) := fun _ ps _ => length_opcode_encodeImm _ ps v
theorem rolAcc : Statement .rolAcc := fun _ _ _ => within rfl rfl
theorem bitAbs (a : Word) : Statement (.bitAbs a) := fun _ _ _ => within rfl rfl
theorem andAbs (a : Word) : Statement (.andAbs a) := fun _ _ _ => within rfl rfl
theorem rolAbs (a : Word) : Statement (.rolAbs a) := fun _ _ _ => within rfl rfl
theorem bbr2 (z : Byte) (r : Byte) : Statement (.bbr2 z r) := fun _ _ _ => within rfl rfl
theorem bmiRel (r : Byte) : Statement (.bmiRel r) := fun _ _ _ => within rfl rfl
theorem andZpIY (z : Byte) : Statement (.andZpIY z) := fun _ _ _ => within rfl rfl
theorem andZpI (z : Byte) : Statement (.andZpI z) := fun _ _ _ => within rfl rfl
theorem bitZpX (z : Byte) : Statement (.bitZpX z) := fun _ _ _ => within rfl rfl
theorem andZpX (z : Byte) : Statement (.andZpX z) := fun _ _ _ => within rfl rfl
theorem rolZpX (z : Byte) : Statement (.rolZpX z) := fun _ _ _ => within rfl rfl
theorem rmb3 (z : Byte) : Statement (.rmb3 z) := fun _ _ _ => within rfl rfl
theorem sec : Statement .sec := fun _ _ _ => within rfl rfl
theorem andAbsY (a : Word) : Statement (.andAbsY a) := fun _ _ _ => within rfl rfl
theorem decAcc : Statement .decAcc := fun _ _ _ => within rfl rfl
theorem bitAbsX (a : Word) : Statement (.bitAbsX a) := fun _ _ _ => within rfl rfl
theorem andAbsX (a : Word) : Statement (.andAbsX a) := fun _ _ _ => within rfl rfl
theorem rolAbsX (a : Word) : Statement (.rolAbsX a) := fun _ _ _ => within rfl rfl
theorem bbr3 (z : Byte) (r : Byte) : Statement (.bbr3 z r) := fun _ _ _ => within rfl rfl
theorem rti : Statement .rti := fun _ _ _ => within rfl rfl
theorem eorZpXI (z : Byte) : Statement (.eorZpXI z) := fun _ _ _ => within rfl rfl
theorem eorZp (z : Byte) : Statement (.eorZp z) := fun _ _ _ => within rfl rfl
theorem lsrZp (z : Byte) : Statement (.lsrZp z) := fun _ _ _ => within rfl rfl
theorem rmb4 (z : Byte) : Statement (.rmb4 z) := fun _ _ _ => within rfl rfl
theorem pha : Statement .pha := fun _ _ _ => within rfl rfl
theorem eorImm (v : Word) : Statement (.eorImm v) := fun _ ps _ => length_opcode_encodeImm _ ps v
theorem lsrAcc : Statement .lsrAcc := fun _ _ _ => within rfl rfl
theorem jmpAbs (a : Word) : Statement (.jmpAbs a) := fun _ _ _ => within rfl rfl
theorem eorAbs (a : Word) : Statement (.eorAbs a) := fun _ _ _ => within rfl rfl
theorem lsrAbs (a : Word) : Statement (.lsrAbs a) := fun _ _ _ => within rfl rfl
theorem bbr4 (z : Byte) (r : Byte) : Statement (.bbr4 z r) := fun _ _ _ => within rfl rfl
theorem bvcRel (r : Byte) : Statement (.bvcRel r) := fun _ _ _ => within rfl rfl
theorem eorZpIY (z : Byte) : Statement (.eorZpIY z) := fun _ _ _ => within rfl rfl
theorem eorZpI (z : Byte) : Statement (.eorZpI z) := fun _ _ _ => within rfl rfl
theorem eorZpX (z : Byte) : Statement (.eorZpX z) := fun _ _ _ => within rfl rfl
theorem lsrZpX (z : Byte) : Statement (.lsrZpX z) := fun _ _ _ => within rfl rfl
theorem rmb5 (z : Byte) : Statement (.rmb5 z) := fun _ _ _ => within rfl rfl
theorem cli : Statement .cli := fun _ _ _ => within rfl rfl
theorem eorAbsY (a : Word) : Statement (.eorAbsY a) := fun _ _ _ => within rfl rfl
theorem phy : Statement .phy := fun _ _ _ => within rfl rfl
theorem eorAbsX (a : Word) : Statement (.eorAbsX a) := fun _ _ _ => within rfl rfl
theorem lsrAbsX (a : Word) : Statement (.lsrAbsX a) := fun _ _ _ => within rfl rfl
theorem bbr5 (z : Byte) (r : Byte) : Statement (.bbr5 z r) := fun _ _ _ => within rfl rfl
theorem rts : Statement .rts := fun _ _ _ => within rfl rfl
theorem adcZpXI (z : Byte) : Statement (.adcZpXI z) := fun _ _ _ => within rfl rfl
theorem stzZp (z : Byte) : Statement (.stzZp z) := fun _ _ _ => within rfl rfl
theorem adcZp (z : Byte) : Statement (.adcZp z) := fun _ _ _ => within rfl rfl
theorem rorZp (z : Byte) : Statement (.rorZp z) := fun _ _ _ => within rfl rfl
theorem rmb6 (z : Byte) : Statement (.rmb6 z) := fun _ _ _ => within rfl rfl
theorem pla : Statement .pla := fun _ _ _ => within rfl rfl
theorem adcImm (v : Word) : Statement (.adcImm v) := fun _ ps _ => length_opcode_encodeImm _ ps v
theorem rorAcc : Statement .rorAcc := fun _ _ _ => within rfl rfl
theorem jmpAbsI (a : Word) : Statement (.jmpAbsI a) := fun _ _ _ => within rfl rfl
theorem adcAbs (a : Word) : Statement (.adcAbs a) := fun _ _ _ => within rfl rfl
theorem rorAbs (a : Word) : Statement (.rorAbs a) := fun _ _ _ => within rfl rfl
theorem bbr6 (z : Byte) (r : Byte) : Statement (.bbr6 z r) := fun _ _ _ => within rfl rfl
theorem bvsRel (r : Byte) : Statement (.bvsRel r) := fun _ _ _ => within rfl rfl
theorem adcZpIY (z : Byte) : Statement (.adcZpIY z) := fun _ _ _ => within rfl rfl
theorem adcZpI (z : Byte) : Statement (.adcZpI z) := fun _ _ _ => within rfl rfl
theorem stzZpX (z : Byte) : Statement (.stzZpX z) := fun _ _ _ => within rfl rfl
theorem adcZpX (z : Byte) : Statement (.adcZpX z) := fun _ _ _ => within rfl rfl
theorem rorZpX (z : Byte) : Statement (.rorZpX z) := fun _ _ _ => within rfl rfl
theorem rmb7 (z : Byte) : Statement (.rmb7 z) := fun _ _ _ => within rfl rfl
theorem sei : Statement .sei := fun _ _ _ => within rfl rfl
theorem adcAbsY (a : Word) : Statement (.adcAbsY a) := fun _ _ _ => within rfl rfl
theorem ply : Statement .ply := fun _ _ _ => within rfl rfl
theorem jmpAbsXI (a : Word) : Statement (.jmpAbsXI a) := fun _ _ _ => within rfl rfl
theorem adcAbsX (a : Word) : Statement (.adcAbsX a) := fun _ _ _ => within rfl rfl
theorem rorAbsX (a : Word) : Statement (.rorAbsX a) := fun _ _ _ => within rfl rfl
theorem bbr7 (z : Byte) (r : Byte) : Statement (.bbr7 z r) := fun _ _ _ => within rfl rfl
theorem braRel (r : Byte) : Statement (.braRel r) := fun _ _ _ => within rfl rfl
theorem staZpXI (z : Byte) : Statement (.staZpXI z) := fun _ _ _ => within rfl rfl
theorem styZp (z : Byte) : Statement (.styZp z) := fun _ _ _ => within rfl rfl
theorem staZp (z : Byte) : Statement (.staZp z) := fun _ _ _ => within rfl rfl
theorem stxZp (z : Byte) : Statement (.stxZp z) := fun _ _ _ => within rfl rfl
theorem smb0 (z : Byte) : Statement (.smb0 z) := fun _ _ _ => within rfl rfl
theorem dey : Statement .dey := fun _ _ _ => within rfl rfl
theorem bitImm (v : Word) : Statement (.bitImm v) := fun _ ps _ => length_opcode_encodeImm _ ps v
theorem txa : Statement .txa := fun _ _ _ => within rfl rfl
theorem styAbs (a : Word) : Statement (.styAbs a) := fun _ _ _ => within rfl rfl
theorem staAbs (a : Word) : Statement (.staAbs a) := fun _ _ _ => within rfl rfl
theorem stxAbs (a : Word) : Statement (.stxAbs a) := fun _ _ _ => within rfl rfl
theorem bbs0 (z : Byte) (r : Byte) : Statement (.bbs0 z r) := fun _ _ _ => within rfl rfl
theorem bccRel (r : Byte) : Statement (.bccRel r) := fun _ _ _ => within rfl rfl
theorem staZpIY (z : Byte) : Statement (.staZpIY z) := fun _ _ _ => within rfl rfl
theorem staZpI (z : Byte) : Statement (.staZpI z) := fun _ _ _ => within rfl rfl
theorem styZpX (z : Byte) : Statement (.styZpX z) := fun _ _ _ => within rfl rfl
theorem staZpX (z : Byte) : Statement (.staZpX z) := fun _ _ _ => within rfl rfl
theorem stxZpY (z : Byte) : Statement (.stxZpY z) := fun _ _ _ => within rfl rfl
theorem smb1 (z : Byte) : Statement (.smb1 z) := fun _ _ _ => within rfl rfl
theorem tya : Statement .tya := fun _ _ _ => within rfl rfl
theorem staAbsY (a : Word) : Statement (.staAbsY a) := fun _ _ _ => within rfl rfl
theorem txs : Statement .txs := fun _ _ _ => within rfl rfl
theorem stzAbs (a : Word) : Statement (.stzAbs a) := fun _ _ _ => within rfl rfl
theorem staAbsX (a : Word) : Statement (.staAbsX a) := fun _ _ _ => within rfl rfl
theorem stzAbsX (a : Word) : Statement (.stzAbsX a) := fun _ _ _ => within rfl rfl
theorem bbs1 (z : Byte) (r : Byte) : Statement (.bbs1 z r) := fun _ _ _ => within rfl rfl
theorem ldyImm (v : Word) : Statement (.ldyImm v) := fun _ ps _ => length_opcode_encodeImm _ ps v
theorem ldaZpXI (z : Byte) : Statement (.ldaZpXI z) := fun _ _ _ => within rfl rfl
theorem ldxImm (v : Word) : Statement (.ldxImm v) := fun _ ps _ => length_opcode_encodeImm _ ps v
theorem ldyZp (z : Byte) : Statement (.ldyZp z) := fun _ _ _ => within rfl rfl
theorem ldaZp (z : Byte) : Statement (.ldaZp z) := fun _ _ _ => within rfl rfl
theorem ldxZp (z : Byte) : Statement (.ldxZp z) := fun _ _ _ => within rfl rfl
theorem smb2 (z : Byte) : Statement (.smb2 z) := fun _ _ _ => within rfl rfl
theorem tay : Statement .tay := fun _ _ _ => within rfl rfl
theorem ldaImm (v : Word) : Statement (.ldaImm v) := fun _ ps _ => length_opcode_encodeImm _ ps v
theorem tax : Statement .tax := fun _ _ _ => within rfl rfl
theorem ldyAbs (a : Word) : Statement (.ldyAbs a) := fun _ _ _ => within rfl rfl
theorem ldaAbs (a : Word) : Statement (.ldaAbs a) := fun _ _ _ => within rfl rfl
theorem ldxAbs (a : Word) : Statement (.ldxAbs a) := fun _ _ _ => within rfl rfl
theorem bbs2 (z : Byte) (r : Byte) : Statement (.bbs2 z r) := fun _ _ _ => within rfl rfl
theorem bcsRel (r : Byte) : Statement (.bcsRel r) := fun _ _ _ => within rfl rfl
theorem ldaZpIY (z : Byte) : Statement (.ldaZpIY z) := fun _ _ _ => within rfl rfl
theorem ldaZpI (z : Byte) : Statement (.ldaZpI z) := fun _ _ _ => within rfl rfl
theorem ldyZpX (z : Byte) : Statement (.ldyZpX z) := fun _ _ _ => within rfl rfl
theorem ldaZpX (z : Byte) : Statement (.ldaZpX z) := fun _ _ _ => within rfl rfl
theorem ldxZpY (z : Byte) : Statement (.ldxZpY z) := fun _ _ _ => within rfl rfl
theorem smb3 (z : Byte) : Statement (.smb3 z) := fun _ _ _ => within rfl rfl
theorem clv : Statement .clv := fun _ _ _ => within rfl rfl
theorem ldaAbsY (a : Word) : Statement (.ldaAbsY a) := fun _ _ _ => within rfl rfl
theorem tsx : Statement .tsx := fun _ _ _ => within rfl rfl
theorem ldyAbsX (a : Word) : Statement (.ldyAbsX a) := fun _ _ _ => within rfl rfl
theorem ldaAbsX (a : Word) : Statement (.ldaAbsX a) := fun _ _ _ => within rfl rfl
theorem ldxAbsY (a : Word) : Statement (.ldxAbsY a) := fun _ _ _ => within rfl rfl
theorem bbs3 (z : Byte) (r : Byte) : Statement (.bbs3 z r) := fun _ _ _ => within rfl rfl
theorem cpyImm (v : Word) : Statement (.cpyImm v) := fun _ ps _ => length_opcode_encodeImm _ ps v
theorem cmpZpXI (z : Byte) : Statement (.cmpZpXI z) := fun _ _ _ => within rfl rfl
theorem cpyZp (z : Byte) : Statement (.cpyZp z) := fun _ _ _ => within rfl rfl
theorem cmpZp (z : Byte) : Statement (.cmpZp z) := fun _ _ _ => within rfl rfl
theorem decZp (z : Byte) : Statement (.decZp z) := fun _ _ _ => within rfl rfl
theorem smb4 (z : Byte) : Statement (.smb4 z) := fun _ _ _ => within rfl rfl
theorem iny : Statement .iny := fun _ _ _ => within rfl rfl
theorem cmpImm (v : Word) : Statement (.cmpImm v) := fun _ ps _ => length_opcode_encodeImm _ ps v
theorem dex : Statement .dex := fun _ _ _ => within rfl rfl
theorem cpyAbs (a : Word) : Statement (.cpyAbs a) := fun _ _ _ => within rfl rfl
theorem cmpAbs (a : Word) : Statement (.cmpAbs a) := fun _ _ _ => within rfl rfl
theorem decAbs (a : Word) : Statement (.decAbs a) := fun _ _ _ => within rfl rfl
theorem bbs4 (z : Byte) (r : Byte) : Statement (.bbs4 z r) := fun _ _ _ => within rfl rfl
theorem bneRel (r : Byte) : Statement (.bneRel r) := fun _ _ _ => within rfl rfl
theorem cmpZpIY (z : Byte) : Statement (.cmpZpIY z) := fun _ _ _ => within rfl rfl
theorem cmpZpI (z : Byte) : Statement (.cmpZpI z) := fun _ _ _ => within rfl rfl
theorem cmpZpX (z : Byte) : Statement (.cmpZpX z) := fun _ _ _ => within rfl rfl
theorem decZpX (z : Byte) : Statement (.decZpX z) := fun _ _ _ => within rfl rfl
theorem smb5 (z : Byte) : Statement (.smb5 z) := fun _ _ _ => within rfl rfl
theorem cld : Statement .cld := fun _ _ _ => within rfl rfl
theorem cmpAbsY (a : Word) : Statement (.cmpAbsY a) := fun _ _ _ => within rfl rfl
theorem phx : Statement .phx := fun _ _ _ => within rfl rfl
theorem cmpAbsX (a : Word) : Statement (.cmpAbsX a) := fun _ _ _ => within rfl rfl
theorem decAbsX (a : Word) : Statement (.decAbsX a) := fun _ _ _ => within rfl rfl
theorem bbs5 (z : Byte) (r : Byte) : Statement (.bbs5 z r) := fun _ _ _ => within rfl rfl
theorem cpxImm (v : Word) : Statement (.cpxImm v) := fun _ ps _ => length_opcode_encodeImm _ ps v
theorem sbcZpXI (z : Byte) : Statement (.sbcZpXI z) := fun _ _ _ => within rfl rfl
theorem cpxZp (z : Byte) : Statement (.cpxZp z) := fun _ _ _ => within rfl rfl
theorem sbcZp (z : Byte) : Statement (.sbcZp z) := fun _ _ _ => within rfl rfl
theorem incZp (z : Byte) : Statement (.incZp z) := fun _ _ _ => within rfl rfl
theorem smb6 (z : Byte) : Statement (.smb6 z) := fun _ _ _ => within rfl rfl
theorem inx : Statement .inx := fun _ _ _ => within rfl rfl
theorem sbcImm (v : Word) : Statement (.sbcImm v) := fun _ ps _ => length_opcode_encodeImm _ ps v
theorem nop : Statement .nop := fun _ _ _ => within rfl rfl
theorem cpxAbs (a : Word) : Statement (.cpxAbs a) := fun _ _ _ => within rfl rfl
theorem sbcAbs (a : Word) : Statement (.sbcAbs a) := fun _ _ _ => within rfl rfl
theorem incAbs (a : Word) : Statement (.incAbs a) := fun _ _ _ => within rfl rfl
theorem bbs6 (z : Byte) (r : Byte) : Statement (.bbs6 z r) := fun _ _ _ => within rfl rfl
theorem beqRel (r : Byte) : Statement (.beqRel r) := fun _ _ _ => within rfl rfl
theorem sbcZpIY (z : Byte) : Statement (.sbcZpIY z) := fun _ _ _ => within rfl rfl
theorem sbcZpI (z : Byte) : Statement (.sbcZpI z) := fun _ _ _ => within rfl rfl
theorem sbcZpX (z : Byte) : Statement (.sbcZpX z) := fun _ _ _ => within rfl rfl
theorem incZpX (z : Byte) : Statement (.incZpX z) := fun _ _ _ => within rfl rfl
theorem smb7 (z : Byte) : Statement (.smb7 z) := fun _ _ _ => within rfl rfl
theorem sed : Statement .sed := fun _ _ _ => within rfl rfl
theorem sbcAbsY (a : Word) : Statement (.sbcAbsY a) := fun _ _ _ => within rfl rfl
theorem plx : Statement .plx := fun _ _ _ => within rfl rfl
theorem sbcAbsX (a : Word) : Statement (.sbcAbsX a) := fun _ _ _ => within rfl rfl
theorem incAbsX (a : Word) : Statement (.incAbsX a) := fun _ _ _ => within rfl rfl
theorem bbs7 (z : Byte) (r : Byte) : Statement (.bbs7 z r) := fun _ _ _ => within rfl rfl
theorem bplRel16 (r : Word) : Statement (.bplRel16 r) := fun _ _ _ => within rfl rfl
theorem bmiRel16 (r : Word) : Statement (.bmiRel16 r) := fun _ _ _ => within rfl rfl
theorem bvcRel16 (r : Word) : Statement (.bvcRel16 r) := fun _ _ _ => within rfl rfl
theorem bvsRel16 (r : Word) : Statement (.bvsRel16 r) := fun _ _ _ => within rfl rfl
theorem bccRel16 (r : Word) : Statement (.bccRel16 r) := fun _ _ _ => within rfl rfl
theorem bcsRel16 (r : Word) : Statement (.bcsRel16 r) := fun _ _ _ => within rfl rfl
theorem bneRel16 (r : Word) : Statement (.bneRel16 r) := fun _ _ _ => within rfl rfl
theorem beqRel16 (r : Word) : Statement (.beqRel16 r) := fun _ _ _ => within rfl rfl
theorem braRel16 (r : Word) : Statement (.braRel16 r) := fun _ _ _ => within rfl rfl
theorem asr : Statement .asr := fun _ _ _ => within rfl rfl
theorem osx : Statement .osx := fun cfg _ h => length_encodeExt cfg .osx h
theorem ind : Statement .ind := fun cfg _ h => length_encodeExt cfg .ind h
theorem siz : Statement .siz := fun cfg _ h => length_encodeExt cfg .siz h
theorem oax : Statement .oax := fun cfg _ h => length_encodeExt cfg .oax h
theorem oay : Statement .oay := fun cfg _ h => length_encodeExt cfg .oay h
theorem osz : Statement .osz := fun cfg _ h => length_encodeExt cfg .osz h
theorem ois : Statement .ois := fun cfg _ h => length_encodeExt cfg .ois h
theorem isz : Statement .isz := fun cfg _ h => length_encodeExt cfg .isz h
theorem dup : Statement .dup := fun cfg _ h => length_encodeExt cfg .dup h
theorem swp : Statement .swp := fun cfg _ h => length_encodeExt cfg .swp h
theorem rot : Statement .rot := fun cfg _ h => length_encodeExt cfg .rot h
theorem nxt : Statement .nxt := fun cfg _ h => length_encodeExt cfg .nxt h
theorem ent : Statement .ent := fun cfg _ h => length_encodeExt cfg .ent h
theorem phi : Statement .phi := fun cfg _ h => length_encodeExt cfg .phi h
theorem pli : Statement .pli := fun cfg _ h => length_encodeExt cfg .pli h
theorem ini : Statement .ini := fun cfg _ h => length_encodeExt cfg .ini h

end EncodedLength

end Sys2Proof.Laws
end

