-- ==== Sys2Proof/Tests/Slice0.lean ====
section
/-! SUPPORT. Tests: what the checks of well-formedness refuse, the decoding of every constructor from its written bytes,
one step of the vectors of 95_test_vectors.md, and a witness for the hypotheses of every statement. -/

namespace Sys2Proof.Tests

open Sys2Proof.Machine Sys2Proof.Safety

/-! ## Helpers -/

/-- A configuration that assigns every extension instruction a slot, two slots an ipp-mode operation and one slot the
mark `unimplemented`. Which slots does not matter (95_test_vectors.md). -/
def assigned : Config :=
  { Config.reference with
    extOpcodes :=
      [(.osx, 0x02), (.ind, 0x03), (.siz, 0x0B), (.oax, 0x13), (.oay, 0x1B), (.osz, 0x22), (.ois, 0x23),
       (.isz, 0x2B), (.dup, 0x33), (.swp, 0x3B), (.rot, 0x42), (.nxt, 0x43), (.ent, 0x44), (.phi, 0x4B),
       (.pli, 0x53), (.ini, 0x54)]
    ippOps := [(0x5B, .lda), (0x5C, .sta)]
    unimplementedSlots := [0x62] }

/-- The state after reset with PC, P, bytes at PC and bytes of memory set. -/
def core (pc : Word) (p : Byte) (bytes : List Byte) (cells : List (Word × Byte)) : State :=
  hostLoad pc bytes
    (cells.foldl (fun s c => hostSetByte c.1 c.2 s) { State.reset with pc := pc, p := p, cfg := assigned })

/-- The same at 0x0200 with P = 0x34. -/
def at200 (bytes : List Byte) (cells : List (Word × Byte)) : State := core 0x0200 0x34 bytes cells

/-- What a step leaves in view, if it answers a next state. -/
def stepped {α : Type} (s : State) (view : State → α) : Option α :=
  match step s with
  | .next t => some (view t)
  | _ => none

/-- A register stack with slot 0 set. -/
def tos (v : Word) : RegStack := ⟨v, 0, 0⟩

def osx : PrefixState := { PrefixState.clear with osx := true }
def ind : PrefixState := { PrefixState.clear with ind := true }
def siz : PrefixState := { PrefixState.clear with siz := true }
def oax : PrefixState := { PrefixState.clear with oax := true }
def oay : PrefixState := { PrefixState.clear with oay := true }
def both : PrefixState := { PrefixState.clear with oax := true, oay := true }
def isz : PrefixState := { PrefixState.clear with ind := true, siz := true }
def osz : PrefixState := { PrefixState.clear with osx := true, siz := true }

/-- Under the configuration and PrefixState the bytes decode to the instruction, and it is encoded as them. -/
def reads (cfg : Config) (ps : PrefixState) (l : List (List Byte × Instr)) : Bool :=
  l.all fun e =>
    (match decode cfg ps e.1 with
      | .ok (.instr i, []) => decide (i = e.2)
      | _ => false) && decide (encode cfg ps e.2 = e.1)

/-! ## Well-formedness: what each check refuses -/

theorem test_wf_refuses_wide_immediate :
    (Instr.ldaImm 0x0100).wf Config.reference PrefixState.clear = false ∧
    (Instr.ldaImm 0x00FF).wf Config.reference PrefixState.clear = true ∧
    (Instr.ldaImm 0x0100).wf Config.reference siz = true := by decide

theorem test_wf_refuses_wrong_offset_width :
    (Instr.beqRel 0x10).wf Config.reference ind = false ∧
    (Instr.beqRel16 0x10).wf Config.reference PrefixState.clear = false ∧
    (Instr.braRel16 0x10).wf Config.reference ind = true := by decide

theorem test_wf_separates_lsr_and_asr :
    Instr.lsrAcc.wf Config.reference isz = false ∧ Instr.asr.wf Config.reference siz = false ∧
    Instr.asr.wf Config.reference isz = true ∧ Instr.lsrAcc.wf Config.reference siz = true := by decide

theorem test_wf_refuses_unassigned_extension :
    Instr.dup.wf Config.reference PrefixState.clear = false ∧ Instr.dup.wf assigned PrefixState.clear = true := by
  decide

theorem test_config_refuses_a_base_opcode :
    ({ Config.reference with extOpcodes := [(.siz, 0xEA)] } : Config).wf = false := by decide

theorem test_config_refuses_a_slot_used_twice :
    ({ Config.reference with ippOps := [(0x5B, .lda)], unimplementedSlots := [0x5B] } : Config).wf = false := by
  decide

theorem test_config_refuses_two_opcodes_of_one_extension :
    ({ Config.reference with extOpcodes := [(.siz, 0x02), (.siz, 0x03)] } : Config).wf = false := by decide

theorem test_configs_admitted : Config.reference.wf = true ∧ assigned.wf = true := by decide

/-! ## Decoding: the bytes of every constructor, written from 30_encoding.md R86, R91 and R93 -/

theorem test_decode_row_0 : reads Config.reference PrefixState.clear
    [([0x00], .brk), ([0x01, 0x9A], .oraZpXI 0x9A), ([0x04, 0x9A], .tsbZp 0x9A), ([0x05, 0x9A], .oraZp 0x9A),
     ([0x06, 0x9A], .aslZp 0x9A), ([0x07, 0x9A], .rmb0 0x9A), ([0x08], .php), ([0x09, 0x9A], .oraImm 0x9A),
     ([0x0A], .aslAcc), ([0x0C, 0x34, 0x12], .tsbAbs 0x1234), ([0x0D, 0x34, 0x12], .oraAbs 0x1234),
     ([0x0E, 0x34, 0x12], .aslAbs 0x1234), ([0x0F, 0x9A, 0x56], .bbr0 0x9A 0x56)] = true := by decide

theorem test_decode_row_1 : reads Config.reference PrefixState.clear
    [([0x10, 0x9A], .bplRel 0x9A), ([0x11, 0x9A], .oraZpIY 0x9A), ([0x12, 0x9A], .oraZpI 0x9A),
     ([0x14, 0x9A], .trbZp 0x9A), ([0x15, 0x9A], .oraZpX 0x9A), ([0x16, 0x9A], .aslZpX 0x9A),
     ([0x17, 0x9A], .rmb1 0x9A), ([0x18], .clc), ([0x19, 0x34, 0x12], .oraAbsY 0x1234), ([0x1A], .incAcc),
     ([0x1C, 0x34, 0x12], .trbAbs 0x1234), ([0x1D, 0x34, 0x12], .oraAbsX 0x1234),
     ([0x1E, 0x34, 0x12], .aslAbsX 0x1234), ([0x1F, 0x9A, 0x56], .bbr1 0x9A 0x56)] = true := by decide

theorem test_decode_row_2 : reads Config.reference PrefixState.clear
    [([0x20, 0x34, 0x12], .jsr 0x1234), ([0x21, 0x9A], .andZpXI 0x9A), ([0x24, 0x9A], .bitZp 0x9A),
     ([0x25, 0x9A], .andZp 0x9A), ([0x26, 0x9A], .rolZp 0x9A), ([0x27, 0x9A], .rmb2 0x9A), ([0x28], .plp),
     ([0x29, 0x9A], .andImm 0x9A), ([0x2A], .rolAcc), ([0x2C, 0x34, 0x12], .bitAbs 0x1234),
     ([0x2D, 0x34, 0x12], .andAbs 0x1234), ([0x2E, 0x34, 0x12], .rolAbs 0x1234),
     ([0x2F, 0x9A, 0x56], .bbr2 0x9A 0x56)] = true := by decide

theorem test_decode_row_3 : reads Config.reference PrefixState.clear
    [([0x30, 0x9A], .bmiRel 0x9A), ([0x31, 0x9A], .andZpIY 0x9A), ([0x32, 0x9A], .andZpI 0x9A),
     ([0x34, 0x9A], .bitZpX 0x9A), ([0x35, 0x9A], .andZpX 0x9A), ([0x36, 0x9A], .rolZpX 0x9A),
     ([0x37, 0x9A], .rmb3 0x9A), ([0x38], .sec), ([0x39, 0x34, 0x12], .andAbsY 0x1234), ([0x3A], .decAcc),
     ([0x3C, 0x34, 0x12], .bitAbsX 0x1234), ([0x3D, 0x34, 0x12], .andAbsX 0x1234),
     ([0x3E, 0x34, 0x12], .rolAbsX 0x1234), ([0x3F, 0x9A, 0x56], .bbr3 0x9A 0x56)] = true := by decide

theorem test_decode_row_4 : reads Config.reference PrefixState.clear
    [([0x40], .rti), ([0x41, 0x9A], .eorZpXI 0x9A), ([0x45, 0x9A], .eorZp 0x9A), ([0x46, 0x9A], .lsrZp 0x9A),
     ([0x47, 0x9A], .rmb4 0x9A), ([0x48], .pha), ([0x49, 0x9A], .eorImm 0x9A), ([0x4A], .lsrAcc),
     ([0x4C, 0x34, 0x12], .jmpAbs 0x1234), ([0x4D, 0x34, 0x12], .eorAbs 0x1234),
     ([0x4E, 0x34, 0x12], .lsrAbs 0x1234), ([0x4F, 0x9A, 0x56], .bbr4 0x9A 0x56)] = true := by decide

theorem test_decode_row_5 : reads Config.reference PrefixState.clear
    [([0x50, 0x9A], .bvcRel 0x9A), ([0x51, 0x9A], .eorZpIY 0x9A), ([0x52, 0x9A], .eorZpI 0x9A),
     ([0x55, 0x9A], .eorZpX 0x9A), ([0x56, 0x9A], .lsrZpX 0x9A), ([0x57, 0x9A], .rmb5 0x9A), ([0x58], .cli),
     ([0x59, 0x34, 0x12], .eorAbsY 0x1234), ([0x5A], .phy), ([0x5D, 0x34, 0x12], .eorAbsX 0x1234),
     ([0x5E, 0x34, 0x12], .lsrAbsX 0x1234), ([0x5F, 0x9A, 0x56], .bbr5 0x9A 0x56)] = true := by decide

theorem test_decode_row_6 : reads Config.reference PrefixState.clear
    [([0x60], .rts), ([0x61, 0x9A], .adcZpXI 0x9A), ([0x64, 0x9A], .stzZp 0x9A), ([0x65, 0x9A], .adcZp 0x9A),
     ([0x66, 0x9A], .rorZp 0x9A), ([0x67, 0x9A], .rmb6 0x9A), ([0x68], .pla), ([0x69, 0x9A], .adcImm 0x9A),
     ([0x6A], .rorAcc), ([0x6C, 0x34, 0x12], .jmpAbsI 0x1234), ([0x6D, 0x34, 0x12], .adcAbs 0x1234),
     ([0x6E, 0x34, 0x12], .rorAbs 0x1234), ([0x6F, 0x9A, 0x56], .bbr6 0x9A 0x56)] = true := by decide

theorem test_decode_row_7 : reads Config.reference PrefixState.clear
    [([0x70, 0x9A], .bvsRel 0x9A), ([0x71, 0x9A], .adcZpIY 0x9A), ([0x72, 0x9A], .adcZpI 0x9A),
     ([0x74, 0x9A], .stzZpX 0x9A), ([0x75, 0x9A], .adcZpX 0x9A), ([0x76, 0x9A], .rorZpX 0x9A),
     ([0x77, 0x9A], .rmb7 0x9A), ([0x78], .sei), ([0x79, 0x34, 0x12], .adcAbsY 0x1234), ([0x7A], .ply),
     ([0x7C, 0x34, 0x12], .jmpAbsXI 0x1234), ([0x7D, 0x34, 0x12], .adcAbsX 0x1234),
     ([0x7E, 0x34, 0x12], .rorAbsX 0x1234), ([0x7F, 0x9A, 0x56], .bbr7 0x9A 0x56)] = true := by decide

theorem test_decode_row_8 : reads Config.reference PrefixState.clear
    [([0x80, 0x9A], .braRel 0x9A), ([0x81, 0x9A], .staZpXI 0x9A), ([0x84, 0x9A], .styZp 0x9A),
     ([0x85, 0x9A], .staZp 0x9A), ([0x86, 0x9A], .stxZp 0x9A), ([0x87, 0x9A], .smb0 0x9A), ([0x88], .dey),
     ([0x89, 0x9A], .bitImm 0x9A), ([0x8A], .txa), ([0x8C, 0x34, 0x12], .styAbs 0x1234),
     ([0x8D, 0x34, 0x12], .staAbs 0x1234), ([0x8E, 0x34, 0x12], .stxAbs 0x1234),
     ([0x8F, 0x9A, 0x56], .bbs0 0x9A 0x56)] = true := by decide

theorem test_decode_row_9 : reads Config.reference PrefixState.clear
    [([0x90, 0x9A], .bccRel 0x9A), ([0x91, 0x9A], .staZpIY 0x9A), ([0x92, 0x9A], .staZpI 0x9A),
     ([0x94, 0x9A], .styZpX 0x9A), ([0x95, 0x9A], .staZpX 0x9A), ([0x96, 0x9A], .stxZpY 0x9A),
     ([0x97, 0x9A], .smb1 0x9A), ([0x98], .tya), ([0x99, 0x34, 0x12], .staAbsY 0x1234), ([0x9A], .txs),
     ([0x9C, 0x34, 0x12], .stzAbs 0x1234), ([0x9D, 0x34, 0x12], .staAbsX 0x1234),
     ([0x9E, 0x34, 0x12], .stzAbsX 0x1234), ([0x9F, 0x9A, 0x56], .bbs1 0x9A 0x56)] = true := by decide

theorem test_decode_row_A : reads Config.reference PrefixState.clear
    [([0xA0, 0x9A], .ldyImm 0x9A), ([0xA1, 0x9A], .ldaZpXI 0x9A), ([0xA2, 0x9A], .ldxImm 0x9A),
     ([0xA4, 0x9A], .ldyZp 0x9A), ([0xA5, 0x9A], .ldaZp 0x9A), ([0xA6, 0x9A], .ldxZp 0x9A),
     ([0xA7, 0x9A], .smb2 0x9A), ([0xA8], .tay), ([0xA9, 0x9A], .ldaImm 0x9A), ([0xAA], .tax),
     ([0xAC, 0x34, 0x12], .ldyAbs 0x1234), ([0xAD, 0x34, 0x12], .ldaAbs 0x1234),
     ([0xAE, 0x34, 0x12], .ldxAbs 0x1234), ([0xAF, 0x9A, 0x56], .bbs2 0x9A 0x56)] = true := by decide

theorem test_decode_row_B : reads Config.reference PrefixState.clear
    [([0xB0, 0x9A], .bcsRel 0x9A), ([0xB1, 0x9A], .ldaZpIY 0x9A), ([0xB2, 0x9A], .ldaZpI 0x9A),
     ([0xB4, 0x9A], .ldyZpX 0x9A), ([0xB5, 0x9A], .ldaZpX 0x9A), ([0xB6, 0x9A], .ldxZpY 0x9A),
     ([0xB7, 0x9A], .smb3 0x9A), ([0xB8], .clv), ([0xB9, 0x34, 0x12], .ldaAbsY 0x1234), ([0xBA], .tsx),
     ([0xBC, 0x34, 0x12], .ldyAbsX 0x1234), ([0xBD, 0x34, 0x12], .ldaAbsX 0x1234),
     ([0xBE, 0x34, 0x12], .ldxAbsY 0x1234), ([0xBF, 0x9A, 0x56], .bbs3 0x9A 0x56)] = true := by decide

theorem test_decode_row_C : reads Config.reference PrefixState.clear
    [([0xC0, 0x9A], .cpyImm 0x9A), ([0xC1, 0x9A], .cmpZpXI 0x9A), ([0xC4, 0x9A], .cpyZp 0x9A),
     ([0xC5, 0x9A], .cmpZp 0x9A), ([0xC6, 0x9A], .decZp 0x9A), ([0xC7, 0x9A], .smb4 0x9A), ([0xC8], .iny),
     ([0xC9, 0x9A], .cmpImm 0x9A), ([0xCA], .dex), ([0xCC, 0x34, 0x12], .cpyAbs 0x1234),
     ([0xCD, 0x34, 0x12], .cmpAbs 0x1234), ([0xCE, 0x34, 0x12], .decAbs 0x1234),
     ([0xCF, 0x9A, 0x56], .bbs4 0x9A 0x56)] = true := by decide

theorem test_decode_row_D : reads Config.reference PrefixState.clear
    [([0xD0, 0x9A], .bneRel 0x9A), ([0xD1, 0x9A], .cmpZpIY 0x9A), ([0xD2, 0x9A], .cmpZpI 0x9A),
     ([0xD5, 0x9A], .cmpZpX 0x9A), ([0xD6, 0x9A], .decZpX 0x9A), ([0xD7, 0x9A], .smb5 0x9A), ([0xD8], .cld),
     ([0xD9, 0x34, 0x12], .cmpAbsY 0x1234), ([0xDA], .phx), ([0xDD, 0x34, 0x12], .cmpAbsX 0x1234),
     ([0xDE, 0x34, 0x12], .decAbsX 0x1234), ([0xDF, 0x9A, 0x56], .bbs5 0x9A 0x56)] = true := by decide

theorem test_decode_row_E : reads Config.reference PrefixState.clear
    [([0xE0, 0x9A], .cpxImm 0x9A), ([0xE1, 0x9A], .sbcZpXI 0x9A), ([0xE4, 0x9A], .cpxZp 0x9A),
     ([0xE5, 0x9A], .sbcZp 0x9A), ([0xE6, 0x9A], .incZp 0x9A), ([0xE7, 0x9A], .smb6 0x9A), ([0xE8], .inx),
     ([0xE9, 0x9A], .sbcImm 0x9A), ([0xEA], .nop), ([0xEC, 0x34, 0x12], .cpxAbs 0x1234),
     ([0xED, 0x34, 0x12], .sbcAbs 0x1234), ([0xEE, 0x34, 0x12], .incAbs 0x1234),
     ([0xEF, 0x9A, 0x56], .bbs6 0x9A 0x56)] = true := by decide

theorem test_decode_row_F : reads Config.reference PrefixState.clear
    [([0xF0, 0x9A], .beqRel 0x9A), ([0xF1, 0x9A], .sbcZpIY 0x9A), ([0xF2, 0x9A], .sbcZpI 0x9A),
     ([0xF5, 0x9A], .sbcZpX 0x9A), ([0xF6, 0x9A], .incZpX 0x9A), ([0xF7, 0x9A], .smb7 0x9A), ([0xF8], .sed),
     ([0xF9, 0x34, 0x12], .sbcAbsY 0x1234), ([0xFA], .plx), ([0xFD, 0x34, 0x12], .sbcAbsX 0x1234),
     ([0xFE, 0x34, 0x12], .incAbsX 0x1234), ([0xFF, 0x9A, 0x56], .bbs7 0x9A 0x56)] = true := by decide

theorem test_decode_rel16 : reads Config.reference ind
    [([0x10, 0x34, 0x12], .bplRel16 0x1234), ([0x30, 0x34, 0x12], .bmiRel16 0x1234),
     ([0x50, 0x34, 0x12], .bvcRel16 0x1234), ([0x70, 0x34, 0x12], .bvsRel16 0x1234),
     ([0x90, 0x34, 0x12], .bccRel16 0x1234), ([0xB0, 0x34, 0x12], .bcsRel16 0x1234),
     ([0xD0, 0x34, 0x12], .bneRel16 0x1234), ([0xF0, 0x34, 0x12], .beqRel16 0x1234),
     ([0x80, 0x34, 0x12], .braRel16 0x1234)] = true := by decide

theorem test_decode_asr : reads Config.reference isz [([0x4A], .asr)] = true := by decide

theorem test_decode_word_immediates : reads Config.reference siz
    [([0x09, 0x34, 0x12], .oraImm 0x1234), ([0x29, 0x34, 0x12], .andImm 0x1234),
     ([0x49, 0x34, 0x12], .eorImm 0x1234), ([0x69, 0x34, 0x12], .adcImm 0x1234),
     ([0x89, 0x34, 0x12], .bitImm 0x1234), ([0xA0, 0x34, 0x12], .ldyImm 0x1234),
     ([0xA2, 0x34, 0x12], .ldxImm 0x1234), ([0xA9, 0x34, 0x12], .ldaImm 0x1234),
     ([0xC0, 0x34, 0x12], .cpyImm 0x1234), ([0xC9, 0x34, 0x12], .cmpImm 0x1234),
     ([0xE0, 0x34, 0x12], .cpxImm 0x1234), ([0xE9, 0x34, 0x12], .sbcImm 0x1234)] = true := by decide

theorem test_decode_extensions : reads assigned PrefixState.clear
    [([0x02], .osx), ([0x03], .ind), ([0x0B], .siz), ([0x13], .oax), ([0x1B], .oay), ([0x22], .osz),
     ([0x23], .ois), ([0x2B], .isz), ([0x33], .dup), ([0x3B], .swp), ([0x42], .rot), ([0x43], .nxt),
     ([0x44], .ent), ([0x4B], .phi), ([0x53], .pli), ([0x54], .ini)] = true := by decide

theorem test_decode_ipp_slot :
    decode assigned PrefixState.clear [0x5B, 0x77] = .ok (.ipp .lda, []) ∧
    decode assigned PrefixState.clear [0x62] = .ok (.unimplemented, []) ∧
    decode assigned PrefixState.clear [0xA5] = .error .truncated := ⟨rfl, rfl, rfl⟩

/-- 30_encoding.md R101, R104: the operand of BVS to 0x4005 at 0x4000 is 3; of a rel16 branch to 0x1204 at 0x0201. -/
theorem test_branch_operands :
    relOperand 0x4005 0x4000 = 0x03 ∧ rel16Operand 0x1204 0x0201 = 0x1000 := by decide

theorem test_table_words :
    decodeTableWord 8 0xA9 = some (.ldaImm 0) ∧ decodeTableWord 8 0x10 = some (.bplRel 0) ∧
    decodeTableWord 8 0x02 = none := by decide

theorem test_table_word_runs :
    stepped (State.reset.withFetchWord 8 0xE8) (fun t => (t.x.tos, t.pc)) = some (1, 1) := by decide

/-! ## Reset: RV1, RV2 of 95_test_vectors.md -/

theorem test_rv1 :
    let t := resetCore { (core 0x1234 0xFF [] [(0xFFFD, 0x02)]) with ps := siz, ip := 7, nmiPending := true }
    (t.pc, t.p, t.spUser, t.spKernel) = (0x0200, 0x34, 0x00FF, 0x01FF) ∧
    (t.ip, t.ps, t.nmiPending, t.mem) = (0, PrefixState.clear, false, [(0xFFFD, 0x02)]) := by decide

theorem test_rv2 :
    let s := core 0x1234 0xFF [] [(0xFFFD, 0x02)]
    let t := resetCore { s with cfg := { s.cfg with resetSeed := some 0xC000 } }
    (t.pc, t.mem, t.counters.dataWrites) = (0xC000, [(0xFFFD, 0xC0)], 0) := by decide

/-! ## The vectors of 95_test_vectors.md, one step each. A prefix is stood for by the PrefixState it leaves. -/

/-! ### Addressing -/

theorem test_v1_lda_zp :
    stepped (at200 [0xA5, 0x10] [(0x0010, 0x80)]) (fun t => (t.a.tos, t.p, t.pc)) =
      some (0x80, 0xB4, 0x0202) := by decide

theorem test_v2_lda_zpx_wraps :
    stepped { at200 [0xB5, 0x80] [(0x0000, 0x11), (0x0100, 0x22)] with x := tos 0x80 } (fun t => t.a.tos) =
      some 0x11 := by decide

theorem test_v3_ldx_zpy_wraps :
    stepped { at200 [0xB6, 0xF0] [(0x0010, 0x33)] with y := tos 0x20 } (fun t => t.x.tos) =
      some 0x33 := by decide

theorem test_v4_lda_zpi_pointer_wraps :
    stepped (at200 [0xB2, 0xFF] [(0x0000, 0x12), (0x00FF, 0x34), (0x1234, 0x5A)]) (fun t => t.a.tos) =
      some 0x5A := by decide

theorem test_v5_lda_zpxi :
    stepped { at200 [0xA1, 0x10] [(0x0015, 0x30), (0x3000, 0x77)] with x := tos 4 } (fun t => t.a.tos) =
      some 0x77 := by decide

theorem test_v6_lda_zpiy_carries :
    stepped { at200 [0xB1, 0x20] [(0x0020, 0xF8), (0x0021, 0x30), (0x3108, 0x66)] with y := tos 0x10 }
      (fun t => t.a.tos) =
      some 0x66 := by decide

theorem test_v7_lda_absx_wraps :
    stepped { at200 [0xBD, 0xFF, 0xFF] [(0x0001, 0x44)] with x := tos 2 } (fun t => t.a.tos) =
      some 0x44 := by decide

theorem test_v9_osx_lda_zp_above_512 :
    stepped { core 0x0400 0x34 [0xA5, 0x80] [(0x0201, 0xCD), (0x0301, 0xAB)] with ps := osx, spKernel := 0x0281 }
      (fun t => t.a.tos) =
      some 0xAB := by decide

theorem test_v10_osx_lda_zpx_sign_extends :
    stepped { core 0x0400 0x34 [0xB5, 0x80] [(0x0201, 0xCD), (0x0301, 0xAB)] with ps := osx, spKernel := 0x0281, x := tos 5 }
      (fun t => t.a.tos) =
      some 0xCD := by decide

theorem test_v12_ind_lda_zpi_twice :
    stepped { at200 [0xB2, 0x10] [(0x0011, 0x40), (0x4001, 0x50), (0x5000, 0x3C)] with ps := ind }
      (fun t => t.a.tos) =
      some 0x3C := by decide

theorem test_v13_osx_lda_abs :
    stepped { core 0x0400 0x34 [0xAD, 0x10, 0x00] [(0x0200, 0x42)] with ps := osx, spKernel := 0x01F0 }
      (fun t => t.a.tos) =
      some 0x42 := by decide

/-- V8: under osx a zp address below 512 stays in the page of S; V11: ind turns zp into (zp); V16: the high byte of a
word at 0xFF comes from 0x00. -/
theorem test_v8_v11_v16_zp_addresses :
    State.effAddr { (at200 [] []) with ps := osx, spKernel := 0x01F0 } (.zp 0x20) = ⟨0x0110, .page⟩ ∧
    State.effAddr { (at200 [] [(0x0011, 0x40)]) with ps := ind } (.zp 0x10) = ⟨0x4000, .full⟩ ∧
    (at200 [] [(0x0000, 0xAB), (0x00FF, 0xCD)]).readMem ((at200 [] []).effAddr (.zp 0xFF)) .word = 0xABCD := by decide

/-! ### Loads, stores, transfers -/

/-- V14 and V17: N is set, and a byte load clears bits 15:8. -/
theorem test_v14_lda_imm_sets_n :
    stepped { at200 [0xA9, 0x80] [] with a := tos 0xFF00 } (fun t => (t.a.tos, t.p)) =
      some (0x80, 0xB4) := by decide

theorem test_v18_siz_sta_abs :
    stepped { at200 [0x8D, 0x00, 0x30] [] with ps := siz, a := tos 0xBEEF }
      (fun t => (t.readByte 0x3000, t.readByte 0x3001, t.p)) =
      some (0xEF, 0xBE, 0x34) := by decide

theorem test_v19_stz_zp :
    stepped (at200 [0x64, 0x10] [(0x0010, 0xFF)]) (fun t => t.readByte 0x0010) =
      some 0x00 := by decide

/-- V20 with LDY under oay, which exchanges Y with A. -/
theorem test_v20_oay_ldy_imm_loads_a :
    stepped { at200 [0xA0, 0x05] [] with ps := { oax with oax := false, oay := true } }
      (fun t => (t.a.tos, t.y.tos)) =
      some (0x05, 0x00) := by decide

theorem test_v21_osz_ldx_loads_s :
    stepped { at200 [0xA2, 0x00, 0x04] [] with ps := osz } (fun t => (t.x.tos, t.spKernel, t.p)) =
      some (0, 0x0400, 0x34) := by decide

theorem test_v22_oax_tax :
    stepped { at200 [0xAA] [] with ps := oax, a := tos 1, x := tos 2 } (fun t => (t.a.tos, t.x.tos)) =
      some (2, 2) := by decide

theorem test_v23_txs_keeps_the_high_byte :
    stepped { at200 [0x9A] [] with x := tos 0x80 } (fun t => (t.spKernel, t.p)) =
      some (0x0180, 0x34) := by decide

theorem test_v24_siz_tsx :
    stepped { at200 [0xBA] [] with ps := siz, spKernel := 0x01F0 } (fun t => (t.x.tos, t.p)) =
      some (0x01F0, 0x34) := by decide

/-- V25 with AND #: with oax and oay both set the step faults. -/
theorem test_v25_conflict_faults :
    step { (at200 [0x29, 0x05] []) with ps := both } = .fault .prefixConflict := rfl

/-- R160: an instruction that does not honour the exchange runs under both. -/
theorem test_conflict_is_ignored_by_php :
    stepped { (at200 [0x08] []) with ps := both } (fun t => t.spKernel) = some 0x01FE := by decide

/-- V91: a prefix sets its flag and is not counted as an instruction; flags of prefixes add up. -/
theorem test_v91_prefixes_add_up :
    stepped { (at200 [0x0B] []) with ps := ind } (fun t => (t.ps, t.pc, t.counters.instructions)) =
      some (isz, 0x0201, 0) := by decide

/-! ### ALU -/

theorem test_v27_adc_overflows :
    stepped { at200 [0x69, 0x01] [] with a := tos 0x7F } (fun t => (t.a.tos, t.p)) =
      some (0x80, 0xF4) := by decide

theorem test_v31_adc_decimal :
    stepped { core 0x0200 0x3D [0x69, 0x46] [] with a := tos 0x58 } (fun t => (t.a.tos, t.p)) =
      some (0x05, 0xFD) := by decide

/-- V28 to V30, V35, V36 of the adder: A=0xFF+1 carries; 15+27 and 99+01 in decimal; a word is binary. -/
theorem test_v30_adc_decimal_carries :
    addDec .unadjusted 0x15 0x27 false = ⟨0x42, false, false, false, false⟩ ∧
    (addDec .unadjusted 0x99 0x01 false).r = 0x00 ∧ (addDec .unadjusted 0x99 0x01 false).c = true ∧
    (addDec .unadjusted 0x99 0x01 false).n = true ∧ (addDec .unadjusted 0x99 0x01 false).z = false ∧
    (addBin .byte 0xFF 0x01 false).r = 0 ∧ (addBin .word 0xFFFF 0x0001 false).c = true := by decide

theorem test_v33_sbc_decimal_borrows :
    stepped { core 0x0200 0x3D [0xE9, 0x01] [] with  } (fun t => (t.a.tos, t.p)) =
      some (0x99, 0xBC) := by decide

theorem test_v34_sbc_overflows :
    stepped { core 0x0200 0x35 [0xE9, 0x01] [] with a := tos 0x80 } (fun t => (t.a.tos, t.p)) =
      some (0x7F, 0x75) := by decide

theorem test_v32_sbc_decimal : (subDec .unadjusted 0x42 0x15 true).r = 0x27 ∧
    (subDec .unadjusted 0x42 0x15 true).c = true := by decide

theorem test_v38_cmp_keeps_v_at_byte_width :
    stepped { core 0x0200 0x74 [0xC9, 0x41] [] with a := tos 0x40 } (fun t => t.p) =
      some 0xF4 := by decide

theorem test_v39_siz_cmp_sets_v :
    stepped { at200 [0xC9, 0x01, 0x00] [] with ps := siz, a := tos 0x8000 } (fun t => t.p) =
      some 0x75 := by decide

theorem test_v40_cpx_zp :
    stepped { at200 [0xE4, 0x10] [(0x0010, 0x06)] with x := tos 5 } (fun t => t.p) =
      some 0xB4 := by decide

theorem test_v41_and_to_zero :
    stepped { at200 [0x29, 0x0F] [] with a := tos 0xF0 } (fun t => (t.a.tos, t.p)) =
      some (0x00, 0x36) := by decide

theorem test_v42_ora :
    stepped { at200 [0x09, 0x81] [] with a := tos 1 } (fun t => (t.a.tos, t.p)) =
      some (0x81, 0xB4) := by decide

theorem test_v43_eor_self :
    stepped { at200 [0x49, 0x5A] [] with a := tos 0x5A } (fun t => (t.a.tos, t.p)) =
      some (0x00, 0x36) := by decide

theorem test_v44_bit_zp :
    stepped { at200 [0x24, 0x10] [(0x0010, 0xC0)] with a := tos 1 } (fun t => t.p) =
      some 0xF6 := by decide

theorem test_v45_bit_imm_leaves_n_and_v :
    stepped { at200 [0x89, 0x01] [] with a := tos 0x80 } (fun t => t.p) =
      some 0x36 := by decide

theorem test_v46_siz_bit_zp :
    stepped { at200 [0x24, 0x10] [(0x0010, 0x01), (0x0011, 0x40)] with ps := siz, a := tos 1 } (fun t => t.p) =
      some 0x74 := by decide

/-! ### Read-modify-write and bits -/

theorem test_v47_asl_acc :
    stepped { at200 [0x0A] [] with a := tos 0x81 } (fun t => (t.a.tos, t.p)) =
      some (0x02, 0x35) := by decide

theorem test_v48_lsr_zp :
    stepped (at200 [0x46, 0x10] [(0x0010, 0x01)]) (fun t => (t.readByte 0x0010, t.p)) =
      some (0x00, 0x37) := by decide

theorem test_v49_rol_acc :
    stepped { core 0x0200 0x35 [0x2A] [] with a := tos 0x80 } (fun t => (t.a.tos, t.p)) =
      some (0x01, 0x35) := by decide

theorem test_v50_ror_acc :
    stepped { core 0x0200 0x35 [0x6A] [] with a := tos 0x02 } (fun t => (t.a.tos, t.p)) =
      some (0x81, 0xB4) := by decide

theorem test_v51_isz_lsr_acc_is_asr :
    stepped { at200 [0x4A] [] with ps := isz, a := tos 0x8002 } (fun t => (t.a.tos, t.p)) =
      some (0xC001, 0xB4) := by decide

theorem test_v52_siz_lsr_acc :
    stepped { at200 [0x4A] [] with ps := siz, a := tos 0x8002 } (fun t => (t.a.tos, t.p)) =
      some (0x4001, 0x34) := by decide

theorem test_v53_siz_inc_abs :
    stepped { at200 [0xEE, 0x00, 0x30] [(0x3000, 0xFF)] with ps := siz }
      (fun t => (t.readByte 0x3000, t.readByte 0x3001, t.p)) =
      some (0x00, 0x01, 0x34) := by decide

theorem test_v54_dec_acc_wraps :
    stepped (at200 [0x3A] []) (fun t => (t.a.tos, t.p)) =
      some (0xFF, 0xB4) := by decide

theorem test_v55_oax_inx :
    stepped { at200 [0xE8] [] with ps := oax, a := tos 0x10, x := tos 0x20 } (fun t => (t.a.tos, t.x.tos)) =
      some (0x11, 0x20) := by decide

theorem test_v56_dey_to_zero :
    stepped { at200 [0x88] [] with y := tos 1 } (fun t => (t.y.tos, t.p)) =
      some (0x00, 0x36) := by decide

theorem test_v57_tsb_zp :
    stepped { at200 [0x04, 0x10] [(0x0010, 0xF0)] with a := tos 0x0F } (fun t => (t.readByte 0x0010, t.p)) =
      some (0xFF, 0x36) := by decide

theorem test_v58_trb_zp :
    stepped { at200 [0x14, 0x10] [(0x0010, 0xFF)] with a := tos 0x0F } (fun t => (t.readByte 0x0010, t.p)) =
      some (0xF0, 0x34) := by decide

theorem test_v59_rmb7 :
    stepped (at200 [0x77, 0x10] [(0x0010, 0xFF)]) (fun t => t.readByte 0x0010) =
      some 0x7F := by decide

theorem test_v60_smb0 :
    stepped (at200 [0x87, 0x10] []) (fun t => t.readByte 0x0010) =
      some 0x01 := by decide

theorem test_v61_bbr7_not_taken :
    stepped (at200 [0x7F, 0x10, 0x05] [(0x0010, 0x80)]) (fun t => t.pc) =
      some 0x0203 := by decide

theorem test_v62_bbs0_taken_backwards :
    stepped (at200 [0x8F, 0x10, 0xFD] [(0x0010, 0x01)]) (fun t => t.pc) =
      some 0x0200 := by decide

/-! ### Stack -/

/-- V63 and V65. -/
theorem test_v65_pha_wraps_in_page_1 :
    stepped { core 0x0400 0x34 [0x48] [] with a := tos 0x55, spKernel := 0x0100 }
      (fun t => (t.spKernel, t.readByte 0x0100)) =
      some (0x01FF, 0x55) := by decide

theorem test_v66_pha_full_above_512 :
    stepped { core 0x0400 0x34 [0x48] [] with a := tos 0x55, spKernel := 0x0300 }
      (fun t => (t.spKernel, t.readByte 0x0300)) =
      some (0x02FF, 0x55) := by decide

theorem test_v64_siz_phx :
    stepped { at200 [0xDA] [] with ps := siz, x := tos 0x1234 }
      (fun t => (t.spKernel, t.readByte 0x01FF, t.readByte 0x01FE)) =
      some (0x01FD, 0x12, 0x34) := by decide

theorem test_v67_pull_does_not_undo_a_push_at_512 :
    stepped { core 0x0400 0x34 [0x68] [(0x0100, 0x99), (0x0200, 0x55)] with spKernel := sDec 0x0200 }
      (fun t => (t.a.tos, t.spKernel)) =
      some (0x99, 0x0100) := by decide

theorem test_v68_php_pushes_b :
    stepped (core 0x0200 0x24 [0x08] []) (fun t => (t.p, t.readByte 0x01FF)) =
      some (0x24, 0x34) := by decide

theorem test_v69_plp_keeps_m :
    stepped { core 0x0200 0x20 [0x28] [(0x01FF, 0xCF)] with spKernel := 0x01FE } (fun t => t.p) =
      some 0xFF := by decide

theorem test_v70_pla_sets_n :
    stepped { at200 [0x68] [(0x01FF, 0x80)] with spKernel := 0x01FE } (fun t => (t.a.tos, t.p)) =
      some (0x80, 0xB4) := by decide

theorem test_v71_phy_in_user_context :
    stepped { core 0x0200 0x04 [0x5A] [] with y := tos 7 } (fun t => (t.spUser, t.spKernel, t.readByte 0x00FF)) =
      some (0x00FE, 0x01FF, 0x07) := by decide

theorem test_v72_dup :
    stepped { at200 [0x33] [] with a := ⟨1, 2, 3⟩ } (fun t => t.a) =
      some ⟨1, 1, 2⟩ := by decide

theorem test_v73_swp :
    stepped { at200 [0x3B] [] with a := ⟨1, 2, 3⟩ } (fun t => t.a) =
      some ⟨2, 1, 3⟩ := by decide

theorem test_v74_rot :
    stepped { at200 [0x42] [] with a := ⟨1, 2, 3⟩ } (fun t => t.a) =
      some ⟨3, 1, 2⟩ := by decide

theorem test_v76_plp_in_user_context :
    stepped { core 0x0200 0xD3 [0x28] [(0x00FF, 0xD3)] with spUser := 0x00FE } (fun t => (t.p, t.spUser)) =
      some (0xD3, 0x00FF) := by decide

/-! ### Control flow -/

theorem test_v77_bne_taken :
    stepped (at200 [0xD0, 0x10] []) (fun t => t.pc) =
      some 0x0212 := by decide

theorem test_v78_beq_not_taken :
    stepped (at200 [0xF0, 0x10] []) (fun t => t.pc) =
      some 0x0202 := by decide

theorem test_v79_bpl_backward :
    stepped (at200 [0x10, 0x80] []) (fun t => t.pc) =
      some 0x0182 := by decide

theorem test_v80_bra_wraps :
    stepped (core 0xFFF0 0x34 [0x80, 0x7F] []) (fun t => t.pc) =
      some 0x0071 := by decide

theorem test_v81_ind_bra :
    stepped { core 0x0201 0x34 [0x80, 0x00, 0x10] [] with ps := ind } (fun t => t.pc) =
      some 0x1204 := by decide

theorem test_v82_ind_bne_backwards :
    stepped { core 0x0201 0x34 [0xD0, 0xFD, 0xFF] [] with ps := ind } (fun t => t.pc) =
      some 0x0201 := by decide

theorem test_v84_ind_jmp_abs :
    stepped { at200 [0x4C, 0x00, 0x10] [(0x1000, 0x34), (0x1001, 0x12)] with ps := ind } (fun t => t.pc) =
      some 0x1234 := by decide

theorem test_v83_jmp_abs :
    stepped (at200 [0x4C, 0x00, 0xC0] []) (fun t => t.pc) =
      some 0xC000 := by decide

theorem test_v85_jmp_absi_crosses_a_page :
    stepped (at200 [0x6C, 0xFF, 0x10] [(0x1000, 0x56), (0x10FF, 0x34), (0x1100, 0x12)]) (fun t => t.pc) =
      some 0x1234 := by decide

theorem test_v86_jmp_absxi :
    stepped { at200 [0x7C, 0x00, 0x10] [(0x1003, 0x20)] with x := tos 2 } (fun t => t.pc) =
      some 0x2000 := by decide

theorem test_v87_jsr :
    stepped (at200 [0x20, 0x00, 0x03] []) (fun t => (t.pc, t.spKernel, t.readByte 0x01FF, t.readByte 0x01FE)) =
      some (0x0300, 0x01FD, 0x02, 0x02) := by decide

theorem test_v88_rts :
    stepped { core 0x0300 0x34 [0x60] [(0x01FF, 0x02), (0x01FE, 0x02)] with spKernel := 0x01FD }
      (fun t => (t.pc, t.spKernel)) =
      some (0x0203, 0x01FF) := by decide

theorem test_v89_brk_from_user_context :
    stepped (core 0x0400 0x00 [0x00] [(0xFFFF, 0xE0)])
      (fun t => (t.pc, t.p, t.spUser, t.spKernel, t.readByte 0x01FF, t.readByte 0x01FE, t.readByte 0x01FD)) =
      some (0xE000, 0x24, 0x00FF, 0x01FC, 0x04, 0x02, 0x10) := by decide

theorem test_v90_rti_to_user_context :
    stepped { core 0xE000 0x24 [0x40] [(0x01FF, 0x04), (0x01FE, 0x02), (0x01FD, 0x10)] with spKernel := 0x01FC }
      (fun t => (t.pc, t.p, t.spUser, t.spKernel)) =
      some (0x0402, 0x10, 0x00FF, 0x01FF) := by decide

theorem test_v92_sed_after_cld :
    stepped (core 0x0202 0x04 [0xF8] []) (fun t => t.p) =
      some 0x0C := by decide

theorem test_v94_ind_jsr :
    stepped { core 0x0201 0x34 [0x20, 0x00, 0x10] [(0x1001, 0x30)] with ps := ind }
      (fun t => (t.pc, t.readByte 0x01FF, t.readByte 0x01FE)) =
      some (0x3000, 0x02, 0x03) := by decide

/-- V93, V95: a refused slot stops the step; the hardware state, prefix flags among it, stays with the mark. -/
theorem test_v95_refused_slot :
    let m := markedStep ⟨{ (core 0x0201 0x34 [0xFC] []) with ps := siz }, .running⟩
    (m.hw.pc, m.hw.ps, m.mark) = (0x0201, siz, .refused (.unassignedSlot 0xFC)) := by decide

/-- E12: an unimplemented slot advances PC by two in all, is not counted and clears the flags. -/
theorem test_unimplemented_slot :
    stepped { (at200 [0x62] []) with ps := siz } (fun t => (t.pc, t.counters.instructions, t.ps)) =
      some (0x0202, 0, PrefixState.clear) := by decide

theorem test_v96_bvs_taken :
    stepped (core 0x4000 0x74 [0x70, 0x03] []) (fun t => t.pc) =
      some 0x4005 := by decide

theorem test_v97_bvs_not_taken :
    stepped (core 0x4000 0x34 [0x70, 0x03] []) (fun t => t.pc) =
      some 0x4002 := by decide

/-! ### The Forth machine -/

theorem test_v98_nxt :
    stepped { at200 [0x43] [(0x0801, 0x09), (0x0901, 0xC1)] with ip := 0x0800 } (fun t => (t.ip, t.wp, t.pc)) =
      some (0x0802, 0x0902, 0xC100) := by decide

theorem test_v99_ent :
    stepped { at200 [0x44] [(0x0902, 0x10), (0x0903, 0x09), (0x0911, 0xC2)] with ip := 0x0802, wp := 0x0902 }
      (fun t => (t.ip, t.wp, t.pc, t.spKernel, t.readByte 0x01FF, t.readByte 0x01FE)) =
      some (0x0904, 0x0912, 0xC200, 0x01FD, 0x08, 0x02) := by decide

theorem test_v100_phi :
    stepped { at200 [0x4B] [] with ip := 0x1234 }
      (fun t => (t.ip, t.spKernel, t.readByte 0x01FF, t.readByte 0x01FE)) =
      some (0x1234, 0x01FD, 0x12, 0x34) := by decide

theorem test_v100_pli :
    stepped { at200 [0x53] [(0x01FF, 0x12), (0x01FE, 0x34)] with spKernel := 0x01FD }
      (fun t => (t.ip, t.spKernel)) =
      some (0x1234, 0x01FF) := by decide

theorem test_v101_siz_ini_wraps :
    stepped { at200 [0x54] [] with ps := siz, ip := 0xFFFF } (fun t => t.ip) =
      some 0x0001 := by decide

/-- 47_forth_vm.md R397: the placeholder byte is ignored and IP moves by one. -/
theorem test_ipp_lda_reads_at_ip :
    stepped { at200 [0x5B, 0xFF] [(0x0800, 0x42)] with ip := 0x0800 } (fun t => (t.a.tos, t.ip, t.pc)) =
      some (0x42, 0x0801, 0x0202) := by decide

theorem test_ipp_sta_word :
    stepped { at200 [0x5C, 0x00] [] with ps := siz, ip := 0xFFFF, a := tos 0xBEEF }
      (fun t => (t.readByte 0xFFFF, t.readByte 0x0000, t.ip)) =
      some (0xEF, 0xBE, 0x0001) := by decide

/-! ### Interrupts -/

theorem test_v102_irq_taken :
    stepped { core 0x0200 0x20 [0xEA] [(0xFFFF, 0xE0)] with irq := true }
      (fun t => (t.pc, t.p, t.spKernel, t.readByte 0x01FF, t.readByte 0x01FD, t.counters.instructions)) =
      some (0xE000, 0x24, 0x01FC, 0x02, 0x30, 0) := by decide

theorem test_v103_irq_masked :
    stepped { core 0x0200 0x24 [0xEA] [(0xFFFF, 0xE0)] with irq := true }
      (fun t => (t.pc, t.counters.instructions)) =
      some (0x0201, 1) := by decide

theorem test_v104_nmi_taken :
    stepped { core 0x0200 0x24 [0xEA] [(0xFFFB, 0xD0)] with nmiPending := true }
      (fun t => (t.pc, t.p, t.spKernel, t.nmiPending)) =
      some (0xD000, 0x24, 0x01FC, false) := by decide

/-- V15, V91, V105: a word immediate under siz; the flags are clear after it; the IRQ waits for the next step. -/
theorem test_v15_v105_siz_lda_imm :
    stepped { core 0x0201 0x20 [0xA9, 0x34, 0x12] [(0xFFFF, 0xE0)] with irq := true, ps := siz }
      (fun t => (t.a.tos, t.pc, t.p, t.ps, t.counters.instructions)) =
      some (0x1234, 0x0204, 0x20, PrefixState.clear, 1) := by decide

theorem test_v106_cli_is_not_interrupted :
    stepped { core 0x0200 0x24 [0x58] [(0xFFFF, 0xE0)] with irq := true } (fun t => (t.pc, t.p)) =
      some (0x0201, 0x20) := by decide

/-! ## Witnesses: states and operands that meet the hypotheses of each statement, clause by clause -/

/-- A canonical memory, written to and cleared again at its last byte. -/
theorem witness_ByteWriteStoresTheByte :
    (at200 [0xEA] [(0xFFFF, 0x12)]).mem.wf = true ∧ ((at200 [] []).writeByte 0xFFFF 0).mem.wf = true := by decide

/-- The last address of each wrap class. -/
theorem witness_WordWriteIsLittleEndian :
    (at200 [0xEA] []).mem.wf = true ∧ (EA.mk 0xFFFF .full).nextAddr = 0x0000 ∧ (EA.mk 0x01FF .page).nextAddr = 0x0100 :=
  by decide

theorem witness_FlagsNzTakesSignAndZero : Flag.v ≠ .n ∧ Flag.v ≠ .z := by decide

/-- The greatest operands of each width. -/
theorem witness_BinaryAdderIsExact :
    (0x00FF#16).toNat < 2 ^ Width.byte.bits ∧ (0xFFFF#16).toNat < 2 ^ Width.word.bits := by decide

/-- The greatest and the least decimal bytes; a byte with no decimal digit, whose flags and digits are stated too. -/
theorem witness_DecimalAdderAddsDecimalDigits : isBcd 0x99 ∧ isBcd 0x00 ∧ ¬ isBcd 0xFF := by
  refine ⟨⟨by decide, by decide⟩, ⟨by decide, by decide⟩, fun h => absurd h.1 (by decide)⟩

/-- The greatest immediates of each width, an extension instruction, a rel16 branch. -/
theorem witness_DecodeOfEncodeIsTheInstruction :
    assigned.wf = true ∧ (Instr.ldaImm 0x00FF).wf assigned PrefixState.clear = true ∧
    (Instr.ldaImm 0xFFFF).wf assigned siz = true ∧ Instr.ini.wf assigned PrefixState.clear = true ∧
    (Instr.braRel16 0xFFFF).wf assigned ind = true := by decide

theorem witness_EncodeOfDecodeIsTheBytes :
    assigned.wf = true ∧ decode assigned siz [0xA9, 0xFF, 0xFF, 0xEA] = .ok (.instr (.ldaImm 0xFFFF), [0xEA]) ∧
    decode assigned PrefixState.clear [0x02] = .ok (.instr .osx, []) := ⟨by decide, rfl, rfl⟩

theorem witness_EncodedLengthFollowsTheOpcode :
    assigned.wf = true ∧ (Instr.beqRel16 0x8000).wf assigned ind = true ∧ Instr.asr.wf assigned isz = true := by decide

theorem witness_FreeSlotsAreOutsideTheMap :
    (∀ e, (e, 0xFC) ∉ assigned.extOpcodes) ∧ (∀ o, (0xFC, o) ∉ assigned.ippOps) ∧
    0xFC ∉ assigned.unimplementedSlots := by
  refine ⟨fun e => ?_, fun o => ?_, ?_⟩ <;> simp [assigned, Config.reference]

/-- Three bytes whose addresses wrap past the top of memory, and a one-byte instruction. -/
theorem witness_StepRunsTheDecodedInstruction :
    acceptInterrupt (at200 [0xE8] []) = none ∧
    decode (at200 [0xE8] []).cfg (at200 [0xE8] []).ps [0xE8, 0x00, 0x00] = .ok (.instr .inx, [0x00, 0x00]) ∧
    decodeAt (core 0xFFFF 0x34 [] [(0xFFFF, 0x4C), (0x0000, 0x34), (0x0001, 0x12)]) =
      .ok (.instr (.jmpAbs 0x1234), []) := ⟨rfl, rfl, rfl⟩

/-- NOP under siz; an IRQ entry; an unimplemented slot. -/
theorem witness_OtherStepsClearPrefixState :
    (∃ t, step { (at200 [0xEA] []) with ps := siz } = .next t) ∧
    decodeAt { (at200 [0xEA] []) with ps := siz } = .ok (.instr .nop, [0x00, 0x00]) ∧ isPrefix .nop = false ∧
    (∃ t, step { (core 0x0200 0x20 [0xEA] []) with irq := true } = .next t) ∧
    acceptInterrupt { (core 0x0200 0x20 [0xEA] []) with irq := true } ≠ none ∧
    (∃ t, step { (at200 [0x62] []) with ps := siz } = .next t) :=
  ⟨⟨_, rfl⟩, rfl, rfl, ⟨_, rfl⟩, nofun, ⟨_, rfl⟩⟩

theorem witness_PrefixStepAddsItsFlags :
    prefixFlags assigned .osz = some osz ∧ acceptInterrupt (at200 [0x22] []) = none ∧
    decodeAt (at200 [0x22] []) = .ok (.instr .osz, [0x00, 0x00]) := ⟨rfl, rfl, rfl⟩

/-- An unimplemented slot, a refused one, one with an ipp-mode operation. -/
theorem witness_SlotsOutsideTheMapStep :
    (acceptInterrupt (at200 [0x62] []) = none ∧ slotKind assigned 0x62 = .unimplemented) ∧
    (acceptInterrupt (at200 [0xFC] []) = none ∧ slotKind assigned 0xFC = .refused) ∧
    (acceptInterrupt (at200 [0x5B] []) = none ∧ slotKind assigned 0x5B = .ipp .lda ∧
      ∃ t, execIpp .lda ((at200 [0x5B] []).fetched 2) = .next t) ∧
    baseEntry 0x62 = none ∧ baseEntry 0xFC = none ∧ baseEntry 0x5B = none :=
  ⟨⟨rfl, rfl⟩, ⟨rfl, rfl⟩, ⟨rfl, rfl, _, rfl⟩, rfl, rfl, rfl⟩

/-- A prefix flag set; NMI pending; IRQ with I clear; IRQ with I set. -/
theorem witness_InterruptAcceptance :
    siz.any = true ∧ PrefixState.clear.any = false ∧ getFlag .i 0x20 = false ∧ getFlag .i 0x24 = true ∧
    acceptInterrupt { (core 0x0200 0x24 [] []) with irq := true } = none := by decide

theorem witness_TrapEntrySavesPcAndStatus :
    (core 0x0400 0x00 [] []).mem.wf = true ∧ assigned.trapStackOrder = .kernelFirst ∧
    ({ assigned with trapStackOrder := .literal } : Config).trapStackOrder ≠ .kernelFirst ∧
    getFlag .m 0x00 = false ∧ getFlag .m 0x20 = true := by decide

/-- The kernel stack pointers at the edges of the excluded ones. -/
theorem witness_ReturnUndoesTheTrap :
    (at200 [] []).mem.wf = true ∧ (at200 [] []).cfg.trapStackOrder = .kernelFirst ∧
    (0x01FF#16).toNat < 512 ∧ 515 ≤ (0x0203#16).toNat := by decide

/-- Without and with RESET_SEED, the RESET vector at the top of memory. -/
theorem witness_ResetSetsEveryElement :
    (at200 [0xEA] []).mem.wf = true ∧ (at200 [] []).cfg.resetSeed = none ∧
    (resetCore { (at200 [] []) with cfg := { assigned with vecReset := 0xFFFF, resetSeed := some 0xC012 } }).pc = 0xC012 :=
  by decide

theorem witness_ResetStateIsTheReference :
    State.reset.cfg = Config.reference ∧ State.reset.mem = [] ∧ State.reset.irq = false := ⟨rfl, rfl, rfl⟩

theorem witness_StepKeepsSoundness : Sound State.reset ∧ ∃ t, step State.reset = .next t :=
  ⟨⟨rfl, rfl, rfl, rfl⟩, _, rfl⟩

/-- An NMI entry, which changes the latch; a load of two bytes that wraps past the top of memory; slots that differ and
that agree. -/
theorem witness_HostWritesOneElementStepsKeepInputs :
    (∃ t, step { (at200 [0xEA] []) with nmiPending := true } = .next t ∧ t.nmiPending = false) ∧
    (at200 [0xEA] []).mem.wf = true ∧ [0x12#8, 0x34#8].length ≤ 65536 ∧
    hostSave 0xFFFF 2 (hostLoad 0xFFFF [0x12, 0x34] (at200 [] [])) = [0x12, 0x34] ∧
    hostSlot .x 2 (hostSetSlot .x 2 0xBEEF (at200 [] [])) = 0xBEEF ∧
    hostSlot .x 1 (hostSetSlot .x 2 0xBEEF (at200 [] [])) = 0 := ⟨⟨_, rfl, by decide⟩, by decide⟩

/-- MODE changes in an IRQ entry, in BRK and in RTI; BREAK in PLP and in RTI. -/
theorem witness_ModeChangesOnlyByTrapOrRti :
    stepped { (core 0x0200 0x10 [0xEA] []) with irq := true } (fun t => getFlag .m t.p) = some true ∧
    stepped (core 0x0200 0x10 [0x00] []) (fun t => getFlag .m t.p) = some true ∧
    stepped (core 0x0200 0x30 [0x40] []) (fun t => getFlag .m t.p) = some false ∧
    stepped (core 0x0200 0x20 [0x28] []) (fun t => getFlag .b t.p) = some true ∧
    stepped (core 0x0200 0x20 [0x40] []) (fun t => getFlag .b t.p) = some true := by decide

theorem witness_OnlyStackMovesTouchLowerSlots :
    Instr.pla ≠ .dup ∧ Instr.pla ≠ .swp ∧ Instr.pla ≠ .rot := by decide

theorem witness_InactivePointerIsUntouched :
    (∃ t, exec .rti (at200 [] []) = .next t) ∧ (at200 [] []).cfg.trapStackOrder = .kernelFirst ∧ Instr.rti ≠ .brk ∧
    ∃ t, execIpp .lda (at200 [] []) = .next t := ⟨⟨_, rfl⟩, rfl, nofun, _, rfl⟩

/-- INI moves IP; NXT moves WP. -/
theorem witness_ForthPointersHaveFewWriters :
    (∃ t, exec .ini (at200 [] []) = .next t ∧ t.ip ≠ (at200 [] []).ip) ∧
    (∃ t, exec .nxt (at200 [] []) = .next t ∧ t.wp ≠ (at200 [] []).wp) ∧
    ∃ t, execIpp .sta (at200 [] []) = .next t := ⟨⟨_, rfl, by decide⟩, ⟨_, rfl, by decide⟩, _, rfl⟩

theorem witness_CountersFollowTheAccesses :
    acceptInterrupt (at200 [0x48] []) = none ∧ decodeAt (at200 [0x48] []) = .ok (.instr .pha, [0x00, 0x00]) ∧
    ∃ t, step (at200 [0x48] []) = .next t := ⟨rfl, rfl, _, rfl⟩

/-- Steps that stop: PrefixConflict, a refused slot; a mark that stays. -/
theorem witness_StepStopsOnlyAsTheSpecSays :
    step { (at200 [0x29] []) with ps := both } = .fault .prefixConflict ∧
    step (at200 [0xFC] []) = .refused (.unassignedSlot 0xFC) ∧ Mark.faulted .prefixConflict ≠ .running :=
  ⟨rfl, rfl, by decide⟩

theorem witness_PrefixConflictFaults :
    honoursExchange .rot = true ∧ ({ (at200 [] []) with ps := both } : State).conflict = true ∧
    honoursExchange .php = false ∧ honoursExchange (.rmb3 0xFF) = false := by decide

/-- osx clear; osx set with lscx. -/
theorem witness_ZeroPageAddresses :
    let suppressed : State := { (at200 [] []) with ps := { osx with lscx := true } }
    (at200 [] []).ps.osx = false ∧ (at200 [] []).ps.ind = false ∧ suppressed.ps.lscx = true ∧
    suppressed.ps.ind = false := by decide

/-- S at both sides of the threshold. -/
theorem witness_StackRelativeZeroPageAddresses :
    let s : State := { (at200 [] []) with ps := osx, spKernel := 0x01FF }
    s.ps.osx = true ∧ s.ps.lscx = false ∧ s.ps.ind = false ∧ s.sp.toNat < 512 ∧
    512 ≤ ({ s with spKernel := 0x0200 } : State).sp.toNat := by decide

theorem witness_AbsoluteAddresses :
    let relocated : State := { (at200 [] []) with ps := osx }
    (at200 [] []).ps.ind = false ∧ (at200 [] []).ps.osx = false ∧
    relocated.ps.ind = false ∧ relocated.ps.osx = true ∧ relocated.ps.lscx = false := by decide

theorem witness_IndirectAddresses :
    (at200 [] []).ps.ind = false ∧ ind.ind = true ∧ (∀ z, MemMode.zpXI 0xFF ≠ .zpIY z) := ⟨rfl, rfl, nofun⟩

/-- Without a conflict and with one, IP at the top of memory. -/
theorem witness_IppOperationsWorkAtIp :
    let s : State := { (at200 [0x5B] []) with ps := siz, ip := 0xFFFF }
    let t : State := { s with ps := both }
    s.mem.wf = true ∧ s.conflict = false ∧ t.mem.wf = true ∧ t.conflict = true ∧ isShift .ror = true ∧
    (∀ n, IppOp.stz ≠ .rmb n ∧ IppOp.stz ≠ .smb n) := by
  refine ⟨by decide, by decide, by decide, by decide, rfl, fun n => ⟨nofun, nofun⟩⟩

theorem witness_LoadsOfAAndY :
    (at200 [] []).conflict = false ∧ dataForm (.ldaZpIY 0xFF) = some (.lda, .mem (.zpIY 0xFF)) ∧
    dataForm (.ldyImm 0xFFFF) = some (.ldy, .imm 0xFFFF) := by decide

theorem witness_LoadOfX :
    ({ (at200 [] []) with ps := osx } : State).conflict = false ∧ assigned.osxRegRedirect = true ∧ osx.oax = false ∧
    dataForm (.ldxZpY 0xFF) = some (.ldx, .mem (.zpY 0xFF)) := by decide

theorem witness_StoresOfAYAndZero :
    (at200 [0xEA] []).conflict = false ∧ (at200 [0xEA] []).mem.wf = true ∧
    dataForm (.staAbsX 0xFFFF) = some (.sta, .mem (.absX 0xFFFF)) ∧
    dataForm (.styZpX 0xFF) = some (.sty, .mem (.zpX 0xFF)) ∧
    dataForm (.stzZp 0xFF) = some (.stz, .mem (.zp 0xFF)) := by decide

theorem witness_StoreOfX :
    ({ (at200 [] []) with ps := osx } : State).conflict = false ∧ (at200 [] []).mem.wf = true ∧
    assigned.osxRegRedirect = true ∧ osx.oax = false ∧
    dataForm (.stxAbs 0xFFFF) = some (.stx, .mem (.abs 0xFFFF)) := by decide

/-- A transfer; the exchange by oax, by oay, by neither. -/
theorem witness_Transfers :
    ({ (at200 [] []) with ps := oax } : State).conflict = false ∧ transferForm .tya = some (.y, .a) ∧
    (oax.oax = true ∧ oax.oay = false) ∧ (oay.oax = false ∧ oay.oay = true) ∧
    (siz.oax = false ∧ siz.oay = false) := by decide

theorem witness_TxsAndTsx : ({ (at200 [] []) with ps := siz } : State).conflict = false := by decide

theorem witness_AdcAndSbc :
    (at200 [] []).conflict = false ∧ dataForm (.adcImm 0x00FF) = some (.adc, .imm 0x00FF) ∧
    dataForm (.sbcAbsY 0xFFFF) = some (.sbc, .mem (.absY 0xFFFF)) ∧ getFlag .d 0x3C = true := by decide

theorem witness_BitwiseLogic :
    (at200 [] []).conflict = false ∧ dataForm (.andImm 0x00FF) = some (.and, .imm 0x00FF) ∧
    dataForm (.oraZpXI 0xFF) = some (.ora, .mem (.zpXI 0xFF)) ∧
    dataForm (.eorAbs 0xFFFF) = some (.eor, .mem (.abs 0xFFFF)) := by decide

/-- CPX under osx is redirected to S; without it it compares X. -/
theorem witness_Compares :
    ({ (at200 [] []) with ps := osx } : State).conflict = false ∧ assigned.osxRegRedirect = true ∧ osx.oax = false ∧
    dataForm (.cmpAbsX 0xFFFF) = some (.cmp, .mem (.absX 0xFFFF)) ∧
    dataForm (.cpyImm 0x00FF) = some (.cpy, .imm 0x00FF) ∧ dataForm (.cpxZp 0xFF) = some (.cpx, .mem (.zp 0xFF)) := by
  decide

theorem witness_BitTest :
    (at200 [] []).conflict = false ∧ dataForm (.bitImm 0x00FF) = some (.bit, .imm 0x00FF) ∧
    dataForm (.bitAbsX 0xFFFF) = some (.bit, .mem (.absX 0xFFFF)) := by decide

theorem witness_ShiftsOfMemory :
    (at200 [] []).conflict = false ∧ (at200 [] []).mem.wf = true ∧
    dataForm (.rorAbsX 0xFFFF) = some (.ror, .mem (.absX 0xFFFF)) ∧ isShift .ror = true := by decide

theorem witness_ShiftsOfRegisters :
    (at200 [] []).conflict = false ∧ registerForm .lsrAcc = some (.lsr, .a) ∧ registerForm .dey = some (.dec, .y) ∧
    (siz.ind && siz.siz) = false := by decide

theorem witness_ArithmeticShift :
    ({ (at200 [] []) with ps := isz } : State).conflict = false ∧ isz.ind = true ∧ isz.siz = true := by decide

theorem witness_TestAndModify :
    (at200 [] []).conflict = false ∧ (at200 [] []).mem.wf = true ∧
    dataForm (.tsbZp 0xFF) = some (.tsb, .mem (.zp 0xFF)) ∧
    dataForm (.trbAbs 0xFFFF) = some (.trb, .mem (.abs 0xFFFF)) := by decide

theorem witness_MemoryBits :
    (at200 [] []).mem.wf = true ∧ dataForm (.rmb7 0xFF) = some (.rmb 7, .mem (.zp 0xFF)) ∧
    dataForm (.smb0 0x00) = some (.smb 0, .mem (.zp 0x00)) := by decide

theorem witness_BitBranches :
    bitBranchForm (.bbr7 0xFF 0x80) = some (7, false, 0xFF, 0x80) ∧
    bitBranchForm (.bbs0 0x00 0x7F) = some (0, true, 0x00, 0x7F) := by decide

/-- The pointers at both sides of the threshold. -/
theorem witness_StackPointerMoves : (0x01FF#16).toNat < 512 ∧ 512 ≤ (0x0200#16).toNat := by decide

/-- A byte push and a word push. -/
theorem witness_Pushes :
    (at200 [] []).mem.wf = true ∧ pushForm .phy = some .y ∧ (at200 [] []).conflict = false ∧
    (at200 [] []).width = .byte ∧ ({ (at200 [] []) with ps := siz } : State).width = .word := by decide

theorem witness_Pulls : pullForm .plx = some .x ∧ (at200 [] []).conflict = false := by decide

theorem witness_StackMoves :
    (at200 [] []).conflict = false ∧ movedSlots .rot ⟨1, 2, 3⟩ = some ⟨3, 1, 2⟩ := by decide

/-- The farthest offsets of each width. -/
theorem witness_BranchesGoToTheirTarget :
    relForm (.bneRel 0x80) = some (some (.z, false), 0x80) ∧ (0x80#8).toInt = -128 ∧
    rel16Form (.braRel16 0x7FFF) = some (none, 0x7FFF) ∧ (0x7FFF#16).toInt = 32767 := by decide

theorem witness_JumpsSetPc : ({ (at200 [] []) with ps := oax } : State).conflict = false := by decide

theorem witness_CallAndReturn : (at200 [0x20] []).mem.wf = true := by decide

/-- The stack pointers at the edges of the excluded ones. -/
theorem witness_ReturnUndoesTheCall :
    (at200 [] []).mem.wf = true ∧ ({ (at200 [] []) with spKernel := 0x01FF } : State).sp.toNat < 512 ∧
    514 ≤ ({ (at200 [] []) with spKernel := 0x0202 } : State).sp.toNat := by decide

theorem witness_FlagInstructionsAndNop : flagForm .sed = some (.d, true) ∧ Flag.c ≠ .d := by decide

theorem witness_ForthInstructions : (at200 [0x44] []).mem.wf = true := by decide


end Sys2Proof.Tests
end

/-! PROOF. No instruction but DUP, SWP and ROT reads or writes slots 1 and 2 of A, X and Y (10_state.md R21): replacing
their contents commutes with every operation on the state, so with every handler, so with `exec` and `execIpp`. -/

namespace Sys2Proof.Machine

open Sys2Proof.Safety

/-! ## What is read does not depend on the lower slots -/

section

variable (l : LowerSlots) (s : State)

@[simp] theorem withLower_pc : (withLower l s).pc = s.pc := rfl
@[simp] theorem withLower_p : (withLower l s).p = s.p := rfl
@[simp] theorem withLower_ip : (withLower l s).ip = s.ip := rfl
@[simp] theorem withLower_ps : (withLower l s).ps = s.ps := rfl
@[simp] theorem withLower_cfg : (withLower l s).cfg = s.cfg := rfl

@[simp] theorem readByte_withLower (a : Word) : (withLower l s).readByte a = s.readByte a := rfl
@[simp] theorem readMem_withLower (ea : EA) (W : Width) : (withLower l s).readMem ea W = s.readMem ea W := rfl
@[simp] theorem sp_withLower : (withLower l s).sp = s.sp := rfl

@[simp] theorem slot0_withLower (r : RegName) : (withLower l s).slot0 r = s.slot0 r := by
  cases r <;> rfl

@[simp] theorem rdReg_withLower (d : DataReg) (W : Width) : (withLower l s).rdReg d W = s.rdReg d W := by
  cases d with
  | slot r => simp [State.rdReg]
  | sp => rfl

@[simp] theorem width_withLower : (withLower l s).width = s.width := rfl
@[simp] theorem rho_withLower (r : RegName) : (withLower l s).rho r = s.rho r := rfl
@[simp] theorem conflict_withLower : (withLower l s).conflict = s.conflict := rfl
@[simp] theorem dataReg_withLower (r : RegName) : (withLower l s).dataReg r = s.dataReg r := rfl
@[simp] theorem indexDataReg_withLower (o : Operand) : (withLower l s).indexDataReg o = s.indexDataReg o := rfl
@[simp] theorem pointerReads_withLower (m : MemMode) : (withLower l s).pointerReads m = s.pointerReads m := rfl
@[simp] theorem relTarget_withLower (r : Byte) : (withLower l s).relTarget r = s.relTarget r := rfl
@[simp] theorem rel16Target_withLower (r : Word) : (withLower l s).rel16Target r = s.rel16Target r := rfl

@[simp] theorem idx_withLower (r : RegName) : (withLower l s).idx r = s.idx r := by
  simp [State.idx]

/-- An address is computed from slot 0 of the index registers (40_addressing.md R113). -/
@[simp] theorem effAddr_withLower (m : MemMode) : (withLower l s).effAddr m = s.effAddr m := by
  have hzp (z : Byte) : (withLower l s).zpAddr z = s.zpAddr z := rfl
  have habs (a : Word) : (withLower l s).absAddr a = s.absAddr a := rfl
  have hderef (ea : EA) : (withLower l s).deref ea = s.deref ea := rfl
  have hind (ea : EA) : (withLower l s).withInd ea = s.withInd ea := rfl
  have hon : (withLower l s).osxOn = s.osxOn := rfl
  have hkept (r : RegName) : (withLower l s).keptIdx r = s.keptIdx r := by simp [State.keptIdx]
  have hzpIdx (z : Byte) (r : RegName) : (withLower l s).zpIdxAddr z r = s.zpIdxAddr z r := by
    simp [State.zpIdxAddr, hon, hkept]
  have habsIdx (a : Word) (r : RegName) : (withLower l s).absIdxAddr a r = s.absIdxAddr a r := by
    simp [State.absIdxAddr, hon, hkept]
  cases m <;> simp [State.effAddr, hzp, habs, hderef, hind, hzpIdx, habsIdx]

@[simp] theorem operandValue_withLower (o : Operand) (W : Width) :
    (withLower l s).operandValue o W = s.operandValue o W := by
  cases o <;> simp [State.operandValue]

/-! ## What is written leaves the lower slots -/

@[simp] theorem countReads_withLower (n : Nat) : (withLower l s).countReads n = withLower l (s.countReads n) := rfl
@[simp] theorem mapP_withLower (f : Byte → Byte) : (withLower l s).mapP f = withLower l (s.mapP f) := rfl
@[simp] theorem setP_withLower (f : Flag) (v : Bool) : (withLower l s).setP f v = withLower l (s.setP f v) := rfl
@[simp] theorem loadVector_withLower (v : Word) : (withLower l s).loadVector v = withLower l (s.loadVector v) := rfl
@[simp] theorem writeByte_withLower (a : Word) (v : Byte) :
    (withLower l s).writeByte a v = withLower l (s.writeByte a v) := rfl

@[simp] theorem writeMem_withLower (ea : EA) (W : Width) (v : Word) :
    (withLower l s).writeMem ea W v = withLower l (s.writeMem ea W v) := by
  cases W <;> rfl

@[simp] theorem setSp_withLower (v : Word) : (withLower l s).setSp v = withLower l (s.setSp v) := by
  unfold State.setSp
  rw [withLower_p]
  split <;> rfl

@[simp] theorem setSlot0_withLower (r : RegName) (v : Word) :
    (withLower l s).setSlot0 r v = withLower l (s.setSlot0 r v) := by
  cases r <;> rfl

@[simp] theorem wrReg_withLower (d : DataReg) (W : Width) (v : Word) :
    (withLower l s).wrReg d W v = withLower l (s.wrReg d W v) := by
  cases d <;> cases W <;> simp [State.wrReg]

@[simp] theorem settleIp_withLower (m : MemMode) (W : Width) :
    (withLower l s).settleIp m W = withLower l (s.settleIp m W) := by
  cases m with
  | ipp =>
    change (if s.ps.ind then _ else _) = withLower l (if s.ps.ind then _ else _)
    split <;> rfl
  | _ => rfl

@[simp] theorem consume_withLower (o : Operand) (W : Width) :
    (withLower l s).consume o W = withLower l (s.consume o W) := by
  cases o <;> simp [State.consume]

@[simp] theorem store_withLower (m : MemMode) (W : Width) (v : Word) :
    (withLower l s).store m W v = withLower l (s.store m W v) := by
  simp [State.store]

@[simp] theorem modify_withLower (m : MemMode) (W : Width) (v : Word) :
    (withLower l s).modify m W v = withLower l (s.modify m W v) := by
  simp [State.modify]

@[simp] theorem markLscx_withLower (o : Operand) : (withLower l s).markLscx o = withLower l (s.markLscx o) := by
  unfold State.markLscx
  rw [withLower_ps]
  split <;> rfl

@[simp] theorem push8_withLower (v : Byte) : (withLower l s).push8 v = withLower l (s.push8 v) := by
  simp [State.push8]

@[simp] theorem push16_withLower (v : Word) : (withLower l s).push16 v = withLower l (s.push16 v) := by
  simp [State.push16]

@[simp] theorem pushW_withLower (W : Width) (v : Word) : (withLower l s).pushW W v = withLower l (s.pushW W v) := by
  cases W <;> simp [State.pushW]

@[simp] theorem pull8_withLower : (withLower l s).pull8 = ⟨s.pull8.val, withLower l s.pull8.st⟩ := by
  simp [State.pull8]

@[simp] theorem pull16_withLower : (withLower l s).pull16 = ⟨s.pull16.val, withLower l s.pull16.st⟩ := by
  simp [State.pull16]

@[simp] theorem pullW_withLower (W : Width) :
    (withLower l s).pullW W = ⟨(s.pullW W).val, withLower l (s.pullW W).st⟩ := by
  cases W <;> simp [State.pullW]

/-! ## Traps, the return from them, and the Forth step -/

theorem trapEntry_withLower (v : Word) : trapEntry v (withLower l s) = withLower l (trapEntry v s) := by
  unfold trapEntry
  rw [withLower_cfg]
  split <;> simp

theorem trapReturn_withLower : trapReturn (withLower l s) = withLower l (trapReturn s) := by
  unfold trapReturn
  rw [withLower_cfg]
  split
  · simp only [pull8_withLower, pull16_withLower]
    rfl
  · have h := pull16_withLower l { s.pull8.st with p := withBreak s.pull8.val }
    simp only [pull8_withLower]
    exact congrArg (fun pc : Pulled Word => { pc.st with pc := pc.val }) h

theorem nextWord_withLower : nextWord (withLower l s) = withLower l (nextWord s) := rfl

end

/-! ## The operations that instructions share

Each computes its next state by the operations above, so the rules above carry the lower slots through it. -/

/-- A meaning neither reads nor writes the lower slots: with other contents there it does the same and leaves them. -/
def IgnoresLower (f : State → Result) : Prop :=
  ∀ (l : LowerSlots) (s : State), f (withLower l s) = andThen (withLower l) (f s)

/-- A next state in which the lower slots are kept. -/
theorem IgnoresLower.next {t : State → State} (h : ∀ l s, t (withLower l s) = withLower l (t s)) :
    IgnoresLower fun s => .next (t s) :=
  fun l s => congrArg Host.Outcome.next (h l s)

/-- Whether the exchange faults does not depend on the lower slots (41_prefix.md R157). -/
theorem IgnoresLower.guarded {t : State → State} (h : ∀ l s, t (withLower l s) = withLower l (t s)) :
    IgnoresLower fun s => guardExchange s (t s) := by
  intro l s
  simp only [guardExchange, conflict_withLower, h]
  split <;> rfl

theorem loadReg_ignoresLower (r : RegName) (o : Operand) : IgnoresLower (loadReg r o) :=
  .guarded fun _ _ => by simp [loadInto]

theorem loadX_ignoresLower (o : Operand) : IgnoresLower (loadX o) :=
  .guarded fun _ _ => by simp [loadInto]

theorem storeReg_ignoresLower (r : RegName) (m : MemMode) : IgnoresLower (storeReg r m) :=
  .guarded fun _ _ => by simp

theorem storeX_ignoresLower (m : MemMode) : IgnoresLower (storeX m) :=
  .guarded fun _ _ => by simp

theorem storeZero_ignoresLower (m : MemMode) : IgnoresLower (storeZero m) :=
  .guarded fun _ _ => by simp

theorem transfer_ignoresLower (src dst : RegName) : IgnoresLower (transfer src dst) :=
  .guarded fun _ _ => by simp

theorem addWithCarry_ignoresLower (o : Operand) : IgnoresLower (addWithCarry o) :=
  .guarded fun l _ => by simp [apply_ite (withLower l)]

theorem subWithCarry_ignoresLower (o : Operand) : IgnoresLower (subWithCarry o) :=
  .guarded fun l _ => by simp [apply_ite (withLower l)]

theorem logic_ignoresLower (f : Word → Word → Word) (o : Operand) : IgnoresLower (logic f o) :=
  .guarded fun _ _ => by simp

theorem compareReg_ignoresLower (r : RegName) (o : Operand) : IgnoresLower (compareReg r o) :=
  .guarded fun _ _ => by simp

theorem compareX_ignoresLower (o : Operand) : IgnoresLower (compareX o) :=
  .guarded fun _ _ => by simp

theorem bitMeaning_ignoresLower (o : Operand) : IgnoresLower (bitMeaning o) := by
  cases o with
  | imm v => exact .guarded fun _ _ => by simp
  | mem m => exact .guarded fun _ _ => by simp

theorem rmwMem_ignoresLower (f : Width → Word → Byte → Shifted) (m : MemMode) : IgnoresLower (rmwMem f m) :=
  .guarded fun _ _ => by simp

theorem rmwReg_ignoresLower (f : Width → Word → Byte → Shifted) (r : RegName) : IgnoresLower (rmwReg f r) :=
  .guarded fun _ _ => by simp

theorem arithShift_ignoresLower : IgnoresLower arithShift :=
  .guarded fun _ _ => by simp

theorem testModify_ignoresLower (f : Word → Word → Word) (m : MemMode) : IgnoresLower (testModify f m) :=
  .guarded fun _ _ => by simp

theorem changeBit_ignoresLower (n : Nat) (v : Bool) (m : MemMode) : IgnoresLower (changeBit n v m) :=
  .next fun _ _ => by simp

theorem branchBit_ignoresLower (n : Nat) (v : Bool) (z r : Byte) : IgnoresLower (branchBit n v z r) :=
  .next fun _ _ => by
    rw [operandValue_withLower, consume_withLower, relTarget_withLower]
    split <;> rfl

theorem pushReg_ignoresLower (r : RegName) : IgnoresLower (pushReg r) :=
  .guarded fun _ _ => by simp

theorem pullReg_ignoresLower (r : RegName) : IgnoresLower (pullReg r) :=
  .guarded fun _ _ => by simp

theorem putFlag_ignoresLower (f : Flag) (v : Bool) : IgnoresLower (putFlag f v) := fun _ _ => rfl

theorem setPrefix_ignoresLower (f : PrefixState → PrefixState) : IgnoresLower (setPrefix f) := fun _ _ => rfl

/-- A branch whose condition is taken from P, to a target that does not depend on the lower slots. -/
theorem branchIf_ignoresLower (c : Option (Flag × Bool)) {w : State → Word} (h : ∀ l s, w (withLower l s) = w s) :
    IgnoresLower fun s => branchIf (condition c s.p) (w s) s :=
  .next fun _ _ => by
    rw [withLower_p, h]
    split <;> rfl

/-! ## The instructions -/

theorem onMem_ignoresLower {f : MemMode → State → Result} (h : ∀ m, IgnoresLower (f m)) (o : Operand) :
    IgnoresLower (onMem f o) := by
  cases o with
  | imm v => exact fun _ _ => rfl
  | mem m => exact h m

theorem dataMeaning_ignoresLower (op : IppOp) (o : Operand) : IgnoresLower (dataMeaning op o) := by
  cases op with
  | lda => exact loadReg_ignoresLower .a o
  | ldx => exact loadX_ignoresLower o
  | ldy => exact loadReg_ignoresLower .y o
  | adc => exact addWithCarry_ignoresLower o
  | sbc => exact subWithCarry_ignoresLower o
  | and => exact logic_ignoresLower _ o
  | ora => exact logic_ignoresLower _ o
  | eor => exact logic_ignoresLower _ o
  | cmp => exact compareReg_ignoresLower .a o
  | cpx => exact compareX_ignoresLower o
  | cpy => exact compareReg_ignoresLower .y o
  | bit => exact bitMeaning_ignoresLower o
  | sta => exact onMem_ignoresLower (storeReg_ignoresLower .a) o
  | stx => exact onMem_ignoresLower storeX_ignoresLower o
  | sty => exact onMem_ignoresLower (storeReg_ignoresLower .y) o
  | stz => exact onMem_ignoresLower storeZero_ignoresLower o
  | asl => exact onMem_ignoresLower (rmwMem_ignoresLower aslFn) o
  | lsr => exact onMem_ignoresLower (rmwMem_ignoresLower lsrFn) o
  | rol => exact onMem_ignoresLower (rmwMem_ignoresLower rolFn) o
  | ror => exact onMem_ignoresLower (rmwMem_ignoresLower rorFn) o
  | inc => exact onMem_ignoresLower (rmwMem_ignoresLower incFn) o
  | dec => exact onMem_ignoresLower (rmwMem_ignoresLower decFn) o
  | tsb => exact onMem_ignoresLower (testModify_ignoresLower _) o
  | trb => exact onMem_ignoresLower (testModify_ignoresLower _) o
  | rmb n => exact onMem_ignoresLower (changeBit_ignoresLower n.val false) o
  | smb n => exact onMem_ignoresLower (changeBit_ignoresLower n.val true) o

/-- LSR A is ASR under ind and siz, and both keep to slot 0 (44_rmw_bit.md R263). -/
theorem execLsrAcc_ignoresLower : IgnoresLower execLsrAcc := by
  intro l s
  unfold execLsrAcc
  rw [withLower_ps]
  split
  · exact arithShift_ignoresLower l s
  · exact rmwReg_ignoresLower _ _ l s

theorem exec_registerForm_ignoresLower {i : Instr} {op : IppOp} {r : RegName} (h : registerForm i = some (op, r)) :
    IgnoresLower (exec i) := by
  by_cases hi : i = .lsrAcc
  · exact hi ▸ execLsrAcc_ignoresLower
  · have he : exec i = rmwReg (shiftFn op) r := funext fun s => exec_of_registerForm h s (absurd · hi)
    exact he ▸ rmwReg_ignoresLower _ _

theorem execOis_ignoresLower : IgnoresLower execOis := by
  intro l s
  unfold execOis
  rw [withLower_cfg]
  split <;> exact setPrefix_ignoresLower _ l s

theorem exec_isPrefix_ignoresLower {i : Instr} (h : isPrefix i = true) : IgnoresLower (exec i) := by
  cases i <;> first
    | exact fun _ _ => rfl
    | exact execOis_ignoresLower
    | nomatch h

theorem execTxs_ignoresLower : IgnoresLower execTxs :=
  .guarded fun _ _ => by simp

theorem execTsx_ignoresLower : IgnoresLower execTsx :=
  .guarded fun _ _ => by simp

theorem execPhp_ignoresLower : IgnoresLower execPhp :=
  .next fun _ _ => by simp

theorem execPlp_ignoresLower : IgnoresLower execPlp :=
  .next fun _ _ => by simp only [pull8_withLower]; rfl

theorem execJsr_ignoresLower (a : Word) : IgnoresLower (execJsr a) :=
  .next fun _ _ => by simp only [countReads_withLower, push16_withLower]; rfl

theorem execJmpAbs_ignoresLower (a : Word) : IgnoresLower (execJmpAbs a) :=
  .next fun _ _ => rfl

theorem execJmpAbsI_ignoresLower (a : Word) : IgnoresLower (execJmpAbsI a) :=
  .next fun _ _ => rfl

theorem execJmpAbsXI_ignoresLower (a : Word) : IgnoresLower (execJmpAbsXI a) :=
  .guarded fun _ _ => by simp only [effAddr_withLower]; rfl

theorem execRts_ignoresLower : IgnoresLower execRts :=
  .next fun _ _ => by simp only [pull16_withLower]; rfl

theorem execBrk_ignoresLower : IgnoresLower execBrk :=
  .next fun l s =>
    trapEntry_withLower l { s with pc := s.pc + s.cfg.brkReturnOffset.toWord - 1#16 } s.cfg.vecIrq

theorem execRti_ignoresLower : IgnoresLower execRti :=
  .next trapReturn_withLower

theorem execNop_ignoresLower : IgnoresLower execNop :=
  .next fun _ _ => rfl

theorem execNxt_ignoresLower : IgnoresLower execNxt :=
  .next nextWord_withLower

theorem execEnt_ignoresLower : IgnoresLower execEnt :=
  .next fun _ _ => by simp only [push16_withLower]; rfl

theorem execPhi_ignoresLower : IgnoresLower execPhi :=
  .next fun _ _ => by simp

theorem execPli_ignoresLower : IgnoresLower execPli :=
  .next fun _ _ => by simp only [pull16_withLower]; rfl

theorem execIni_ignoresLower : IgnoresLower execIni :=
  .next fun _ _ => rfl

/-- By the form of the instruction: only the three stack moves reach below slot 0 (10_state.md R21). -/
theorem exec_ignoresLower {i : Instr} (hdup : i ≠ .dup) (hswp : i ≠ .swp) (hrot : i ≠ .rot) :
    IgnoresLower (exec i) := by
  induction i using form_cases with
  | data i op o hf => exact exec_of_dataForm hf ▸ dataMeaning_ignoresLower op o
  | register i op r hf => exact exec_registerForm_ignoresLower hf
  | rel i c r hf => exact funext (exec_of_relForm hf) ▸ branchIf_ignoresLower c (relTarget_withLower · · r)
  | rel16 i c r hf => exact funext (exec_of_rel16Form hf) ▸ branchIf_ignoresLower c (rel16Target_withLower · · r)
  | bitBranch i n b z r hf => exact exec_of_bitBranchForm hf ▸ branchBit_ignoresLower n.val b z r
  | transfer i src dst hf => exact exec_of_transferForm hf ▸ transfer_ignoresLower src dst
  | push i r hf => exact exec_of_pushForm hf ▸ pushReg_ignoresLower r
  | pull i r hf => exact exec_of_pullForm hf ▸ pullReg_ignoresLower r
  | flag i f v hf => exact exec_of_flagForm hf ▸ putFlag_ignoresLower f v
  | isPre i hp => exact exec_isPrefix_ignoresLower hp
  | asr => exact arithShift_ignoresLower
  | txs => exact execTxs_ignoresLower
  | tsx => exact execTsx_ignoresLower
  | dup => exact absurd rfl hdup
  | swp => exact absurd rfl hswp
  | rot => exact absurd rfl hrot
  | php => exact execPhp_ignoresLower
  | plp => exact execPlp_ignoresLower
  | jsr a => exact execJsr_ignoresLower a
  | jmpAbs a => exact execJmpAbs_ignoresLower a
  | jmpAbsI a => exact execJmpAbsI_ignoresLower a
  | jmpAbsXI a => exact execJmpAbsXI_ignoresLower a
  | rts => exact execRts_ignoresLower
  | brk => exact execBrk_ignoresLower
  | rti => exact execRti_ignoresLower
  | nop => exact execNop_ignoresLower
  | nxt => exact execNxt_ignoresLower
  | ent => exact execEnt_ignoresLower
  | phi => exact execPhi_ignoresLower
  | pli => exact execPli_ignoresLower
  | ini => exact execIni_ignoresLower

theorem execIpp_ignoresLower (o : IppOp) : IgnoresLower (execIpp o) :=
  execIpp_eq o ▸ dataMeaning_ignoresLower o (.mem .ipp)

/-- Settles O24: every form of instruction but the three stack moves commutes with a change of the lower slots. -/
theorem onlyStackMovesTouchLowerSlots : Obligations.OnlyStackMovesTouchLowerSlots := by
  unfold Obligations.OnlyStackMovesTouchLowerSlots
  exact ⟨fun _ l s hdup hswp hrot => exec_ignoresLower hdup hswp hrot l s, fun o => execIpp_ignoresLower o⟩

end Sys2Proof.Machine

/-! PROOF. Every step that runs no prefix ends with PrefixState clear (41_prefix.md R152): the end of each such step
clears it, and an interrupt is accepted only where it is clear already. -/

namespace Sys2Proof

theorem PrefixState.any_eq_false_iff {ps : PrefixState} : ps.any = false ↔ ps = PrefixState.clear := by
  cases ps
  simp [PrefixState.any, PrefixState.clear, and_assoc]

end Sys2Proof

namespace Sys2Proof.Machine

/-! ## What a step can do -/

/-- An interrupt is accepted only under a clear PrefixState, and an NMI comes before an IRQ (60_exceptions.md R410). -/
theorem acceptInterrupt_eq_some {s t : State} :
    acceptInterrupt s = some t ↔
      s.ps = PrefixState.clear ∧
        (s.nmiPending = true ∧ t = nmiEntry s ∨
          s.nmiPending = false ∧ s.irq = true ∧ getFlag .i s.p = false ∧ t = irqEntry s) := by
  rw [← PrefixState.any_eq_false_iff]
  unfold acceptInterrupt
  cases s.ps.any <;> cases s.nmiPending <;> cases s.irq <;> cases getFlag .i s.p <;> simp [eq_comm]

/-- A step answers a next state in an interrupt entry, or by running what the bytes at PC hold. -/
theorem step_eq_next {s t : State} :
    step s = .next t ↔
      acceptInterrupt s = some t ∨
        acceptInterrupt s = none ∧
          ∃ d rest, decodeAt s = .ok (d, rest) ∧ runDecoded d (3 - rest.length) s.opcode s = .next t := by
  unfold step
  cases acceptInterrupt s with
  | some u => simp
  | none =>
    cases decodeAt s with
    | error e => simp
    | ok r =>
      obtain ⟨d, rest⟩ := r
      simp

/-! ## PrefixState at the end of a step -/

@[simp] theorem trapEntry_ps (v : Word) (s : State) : (trapEntry v s).ps = s.ps := by
  unfold trapEntry
  split <;> simp

@[simp] theorem nmiEntry_ps (s : State) : (nmiEntry s).ps = s.ps := by simp [nmiEntry]

@[simp] theorem irqEntry_ps (s : State) : (irqEntry s).ps = s.ps := by simp [irqEntry]

@[simp] theorem finishInstr_ps (op : Byte) (s : State) : (finishInstr op s).ps = PrefixState.clear := rfl

theorem finish_ps {i : Instr} (h : isPrefix i = false) (op : Byte) (s : State) :
    (finish i op s).ps = PrefixState.clear := by
  simp [finish, h]

@[simp] theorem unimplementedEntry_ps (op : Byte) (s : State) : (unimplementedEntry op s).ps = PrefixState.clear := rfl

/-- An interrupt entry leaves PrefixState as it found it, which is clear. -/
theorem acceptInterrupt_ps {s t : State} (h : acceptInterrupt s = some t) : t.ps = PrefixState.clear := by
  obtain ⟨hclear, ⟨-, rfl⟩ | ⟨-, -, -, rfl⟩⟩ := acceptInterrupt_eq_some.mp h
  · rw [nmiEntry_ps, hclear]
  · rw [irqEntry_ps, hclear]

/-- Whatever an instruction or operation does to PrefixState, the end of its step clears it, unless it is a prefix. -/
theorem runDecoded_ps {d : Decoded} {n : Nat} {op : Byte} {s t : State} (h : runDecoded d n op s = .next t)
    (hd : ∀ i, d = .instr i → isPrefix i = false) : t.ps = PrefixState.clear := by
  cases d with
  | instr i =>
    obtain ⟨u, -, rfl⟩ := andThen_eq_next.mp h
    exact finish_ps (hd i rfl) op u
  | ipp o =>
    obtain ⟨u, -, rfl⟩ := andThen_eq_next.mp h
    exact finishInstr_ps op u
  | unimplemented =>
    cases h
    exact unimplementedEntry_ps op (s.fetched n)

/-- Settles O12, by what a step can do. -/
theorem otherStepsClearPrefixState : Obligations.OtherStepsClearPrefixState := by
  unfold Obligations.OtherStepsClearPrefixState
  intro s t hstep hother
  obtain hentry | ⟨hnone, d, rest, hdecode, hrun⟩ := step_eq_next.mp hstep
  · exact acceptInterrupt_ps hentry
  · refine runDecoded_ps hrun fun i hi => ?_
    subst hi
    exact hother hnone i rest hdecode

end Sys2Proof.Machine

/-! PROOF. FlagsNZ sets Z and N from the value and keeps every other flag (43_alu.md R220). -/

namespace Sys2Proof.Machine

/-- Settles O3: a flag read back from FlagsNZ is the sign bit, the zero test of the low W bits, or the flag as it was
(`getFlag_flagsNZ`); the first two are then said of the value as a number. -/
theorem flagsNzTakesSignAndZero : Obligations.FlagsNzTakesSignAndZero := by
  unfold Obligations.FlagsNzTakesSignAndZero
  intro W v p
  refine ⟨?zero, ?sign, ?others⟩
  case zero => simp [maskW_eq_zero]
  case sign => simp [msbW_eq]
  case others =>
    intro f hn hz
    simp [hn, hz]

end Sys2Proof.Machine

/-! PROOF. What a step does to MODE and BREAK (46_control.md R380, 10_state.md R36): a trap sets MODE, PLP and RTI set
BREAK, RTI alone takes MODE from the stack, and everything else keeps both. -/

namespace Sys2Proof.Machine

/-! ## P after a trap, after the return from one, and at the end of a step -/

@[simp] theorem trapEntry_p (v : Word) (s : State) :
    (trapEntry v s).p = setFlag .d false (setFlag .i true (setFlag .m true s.p)) := by
  unfold trapEntry
  split <;> simp

/-- Under either order of the trap frame, RTI leaves in P the byte it pulls first, with BREAK set. -/
@[simp] theorem trapReturn_p (s : State) : (trapReturn s).p = withBreak s.pull8.val := by
  unfold trapReturn
  split <;> simp

@[simp] theorem nmiEntry_p (s : State) :
    (nmiEntry s).p = setFlag .d false (setFlag .i true (setFlag .m true s.p)) := by
  simp [nmiEntry]

@[simp] theorem irqEntry_p (s : State) :
    (irqEntry s).p = setFlag .d false (setFlag .i true (setFlag .m true s.p)) := by
  simp [irqEntry]

@[simp] theorem nextWord_p (s : State) : (nextWord s).p = s.p := rfl

@[simp] theorem finishPrefix_p (op : Byte) (s : State) : (finishPrefix op s).p = s.p := rfl

@[simp] theorem finishInstr_p (op : Byte) (s : State) : (finishInstr op s).p = s.p := rfl

@[simp] theorem finish_p (i : Instr) (op : Byte) (s : State) : (finish i op s).p = s.p := by
  unfold finish
  split <;> simp

@[simp] theorem unimplementedEntry_p (op : Byte) (s : State) : (unimplementedEntry op s).p = s.p := rfl

/-! ## MODE and BREAK over a step -/

/-- What running a decoded entry may make of MODE and BREAK, from the status byte `p` to `q`. -/
inductive ModeBreakMove : Decoded → Byte → Byte → Prop where
  | kept {d : Decoded} {p q : Byte} (mode : getFlag .m q = getFlag .m p) (brk : getFlag .b q = getFlag .b p) :
      ModeBreakMove d p q
  | trapped {p q : Byte} (mode : getFlag .m q = true) (brk : getFlag .b q = getFlag .b p) :
      ModeBreakMove (.instr .brk) p q
  | pulled {p q : Byte} (mode : getFlag .m q = getFlag .m p) (brk : getFlag .b q = true) :
      ModeBreakMove (.instr .plp) p q
  | returned {p q : Byte} (brk : getFlag .b q = true) : ModeBreakMove (.instr .rti) p q

/-- An ordinary instruction keeps both flags, and so do the Forth words; that leaves BRK, PLP and RTI. -/
theorem exec_modeBreakMove {i : Instr} {s t : State} (h : exec i s = .next t) :
    ModeBreakMove (.instr i) s.p t.p := by
  cases hi : isSpecial i with
  | false =>
    have hord := exec_ordinary hi h
    exact .kept hord.mode hord.brk
  | true =>
    cases i with
    | brk => cases h; exact .trapped (by simp) (by simp)
    | plp => cases h; exact .pulled (by simp) (by simp)
    | rti => cases h; exact .returned (by simp)
    | nxt => cases h; exact .kept (by simp) (by simp)
    | ent => cases h; exact .kept (by simp) (by simp)
    | pli => cases h; exact .kept (by simp) (by simp)
    | ini => cases h; exact .kept rfl rfl
    | _ => nomatch hi

/-- Fetching the instruction before it runs and counting it afterwards leave P alone. -/
theorem runDecoded_modeBreakMove {d : Decoded} {n : Nat} {op : Byte} {s t : State}
    (h : runDecoded d n op s = .next t) : ModeBreakMove d s.p t.p := by
  cases d with
  | instr i =>
    obtain ⟨u, hexec, rfl⟩ := andThen_eq_next.mp h
    simpa using exec_modeBreakMove hexec
  | ipp o =>
    obtain ⟨u, hexec, rfl⟩ := andThen_eq_next.mp h
    have hord := dataMeaning_ordinary (execIpp_eq o ▸ hexec)
    exact .kept hord.mode hord.brk
  | unimplemented => cases h; exact .kept rfl rfl

/-- An interrupt entry sets MODE and, though it pushes P with BREAK set, leaves BREAK in P as it was. -/
theorem acceptInterrupt_modeBreak {s t : State} (h : acceptInterrupt s = some t) :
    getFlag .m t.p = true ∧ getFlag .b t.p = getFlag .b s.p := by
  obtain ⟨-, ⟨-, rfl⟩ | ⟨-, -, -, rfl⟩⟩ := acceptInterrupt_eq_some.mp h <;> simp

/-- Settles O23, by what a step can do: an interrupt entry, or the run of what was decoded. -/
theorem modeChangesOnlyByTrapOrRti : Obligations.ModeChangesOnlyByTrapOrRti := by
  unfold Obligations.ModeChangesOnlyByTrapOrRti
  refine ⟨?mode, ?brk⟩
  case mode =>
    intro s t hstep hchange
    obtain hentry | ⟨-, d, rest, hdecode, hrun⟩ := step_eq_next.mp hstep
    · exact .inl ⟨hentry, (acceptInterrupt_modeBreak hentry).1⟩
    · cases runDecoded_modeBreakMove hrun with
      | kept hmode _ => exact absurd hmode hchange
      | trapped hmode _ => exact .inr (.inl ⟨rest, hdecode, hmode⟩)
      | pulled hmode _ => exact absurd hmode hchange
      | returned _ => exact .inr (.inr ⟨rest, hdecode⟩)
  case brk =>
    intro s t hstep hchange
    obtain hentry | ⟨-, d, rest, hdecode, hrun⟩ := step_eq_next.mp hstep
    · exact absurd (acceptInterrupt_modeBreak hentry).2 hchange
    · cases runDecoded_modeBreakMove hrun with
      | kept _ hbrk => exact absurd hbrk hchange
      | trapped _ hbrk => exact absurd hbrk hchange
      | pulled _ hbrk => exact ⟨hbrk, .inl ⟨rest, hdecode⟩⟩
      | returned hbrk => exact ⟨hbrk, .inr ⟨rest, hdecode⟩⟩

end Sys2Proof.Machine

/-! PROOF. Where a branch goes (46_control.md R340): PC is the byte after the instruction, or that plus the signed
offset, and no other field of the state is written. -/

namespace Sys2Proof.Machine

open Sys2Proof.Safety

/-- Adding a sign-extended offset is addition of the signed offset modulo 2^16; the offset of rel16 is its own
extension. -/
theorem add_signExtend_eq_ofInt {w : Nat} (pc : Word) (r : BitVec w) :
    pc + r.signExtend 16 = BitVec.ofInt 16 (pc.toNat + r.toInt) := by
  rw [BitVec.ofInt_add, BitVec.ofInt_natCast, BitVec.ofNat_toNat, BitVec.setWidth_eq, BitVec.signExtend]

theorem State.relTarget_eq_ofInt (s : State) (r : Byte) :
    s.relTarget r = BitVec.ofInt 16 (s.pc.toNat + r.toInt) :=
  add_signExtend_eq_ofInt s.pc r

theorem State.rel16Target_eq_ofInt (s : State) (r : Word) :
    s.rel16Target r = BitVec.ofInt 16 (s.pc.toNat + r.toInt) := by
  rw [State.rel16Target, ← add_signExtend_eq_ofInt, BitVec.signExtend_eq]

/-- A branch, taken or not, is a write of PC. -/
theorem branchIf_eq (c : Bool) (w : Word) (s : State) :
    branchIf c w s = .next { s with pc := if c then w else s.pc } := by
  cases c <;> rfl

/-- Settles O55: both forms run `branchIf` to the signed target, under the condition their row names. -/
theorem branchesGoToTheirTarget : Obligations.BranchesGoToTheirTarget := by
  unfold Obligations.BranchesGoToTheirTarget
  intro i cond d s hform
  have hexec : exec i s = branchIf (condition cond s.p) (BitVec.ofInt 16 (s.pc.toNat + d)) s := by
    obtain ⟨r, hrel, rfl⟩ | ⟨r, hrel16, rfl⟩ := hform
    · rw [exec_of_relForm hrel, State.relTarget_eq_ofInt]
    · rw [exec_of_rel16Form hrel16, State.rel16Target_eq_ofInt]
  rw [hexec, branchIf_eq]
  cases cond with
  | none => rfl
  | some c =>
    obtain ⟨f, v⟩ := c
    simp [condition]

end Sys2Proof.Machine

/-! PROOF. The opcode map and the free slots (30_encoding.md R91, R92, R97, R98). -/

namespace Sys2Proof

/-- A slot has no base entry exactly when it is one of the 46 (30_encoding.md R92): a fact about 256 bytes. -/
theorem baseEntry_eq_none_iff : ∀ op : Byte, baseEntry op = none ↔ op ∈ freeSlots := by decide

/-- A slot that no parameter names is refused (30_encoding.md R98). -/
theorem slotKind_of_unnamed {cfg : Config} {op : Byte} (hext : ∀ e, (e, op) ∉ cfg.extOpcodes)
    (hipp : ∀ o, (op, o) ∉ cfg.ippOps) (hunimpl : op ∉ cfg.unimplementedSlots) : slotKind cfg op = .refused := by
  have hext' : cfg.extOpcodes.find? (fun p => p.2 = op) = none := by
    rw [List.find?_eq_none]
    rintro ⟨e, op'⟩ hmem heq
    obtain rfl : op' = op := by simpa using heq
    exact hext e hmem
  have hipp' : cfg.ippOps.find? (fun p => p.1 = op) = none := by
    rw [List.find?_eq_none]
    rintro ⟨op', o⟩ hmem heq
    obtain rfl : op' = op := by simpa using heq
    exact hipp o hmem
  simp [slotKind, hext', hipp', hunimpl]

/-- Settles O10. -/
theorem freeSlotsAreOutsideTheMap : Obligations.FreeSlotsAreOutsideTheMap := by
  unfold Obligations.FreeSlotsAreOutsideTheMap
  exact ⟨rfl, baseEntry_eq_none_iff, fun _ _ => slotKind_of_unnamed⟩

/-- Settles O9: each byte sequence is read off the map. -/
theorem writtenBytesDecode : Obligations.WrittenBytesDecode := by
  unfold Obligations.WrittenBytesDecode
  exact ⟨rfl, rfl, rfl, rfl, rfl, rfl, rfl, rfl⟩

end Sys2Proof

/-! PROOF. Decoding and encoding are inverse (30_encoding.md sections 1 and 2). `Entry.Yields` says which operand bytes
an entry of the opcode map reads as which instruction: the decoder reads exactly these (`decodeOperand_eq_some_iff`), and
the encoder writes exactly these (`encode_of_yields`, `ext_or_inMap`). -/

namespace Sys2Proof

/-- Under PrefixState the entry reads the operand bytes as the instruction. -/
inductive Entry.Yields (ps : PrefixState) : Entry → Instr → List Byte → Prop where
  | one (i : Instr) : Yields ps (.one i) i []
  | plain (i j : Instr) (h : (!(ps.ind && ps.siz)) = true) : Yields ps (.lsrA i j) i []
  | arith (i j : Instr) (h : (ps.ind && ps.siz) = true) : Yields ps (.lsrA i j) j []
  | imm (f : Word → Instr) (v : Word) (h : immFits ps v = true) : Yields ps (.imm f) (f v) (encodeImm ps v)
  | byte (f : Byte → Instr) (z : Byte) : Yields ps (.byte f) (f z) [z]
  | word (f : Word → Instr) (a : Word) : Yields ps (.word f) (f a) (encodeWord a)
  | rel (f : Byte → Instr) (g : Word → Instr) (r : Byte) (h : (!ps.ind) = true) : Yields ps (.rel f g) (f r) [r]
  | rel16 (f : Byte → Instr) (g : Word → Instr) (r : Word) (h : ps.ind = true) :
      Yields ps (.rel f g) (g r) (encodeWord r)
  | zprel (f : Byte → Byte → Instr) (z r : Byte) : Yields ps (.zprel f) (f z r) [z, r]

@[simp] theorem encodeWord_mkWord (hi lo : Byte) : encodeWord (mkWord hi lo) = [lo, hi] := by simp [encodeWord]

/-- What the decoder reads, an entry yields. -/
theorem yields_of_decodeOperand {ps : PrefixState} {e : Entry} {i : Instr} {bytes rest : List Byte}
    (h : decodeOperand ps e bytes = some (i, rest)) : ∃ tail, bytes = tail ++ rest ∧ e.Yields ps i tail := by
  unfold decodeOperand at h
  split at h
  case h_1 i' rest' =>
    cases h
    exact ⟨[], rfl, .one _⟩
  case h_2 i' j rest' =>
    cases h
    cases hlsr : ps.ind && ps.siz with
    | true => exact ⟨[], rfl, .arith _ _ hlsr⟩
    | false => exact ⟨[], rfl, .plain _ _ (by rw [hlsr]; rfl)⟩
  case h_3 f lo tail =>
    cases hsiz : ps.siz with
    | true =>
      cases tail with
      | nil => simp [hsiz] at h
      | cons hi tail =>
        obtain ⟨rfl, rfl⟩ : f (mkWord hi lo) = i ∧ tail = rest := by simpa [hsiz] using h
        exact ⟨_, by simp [encodeImm, hsiz], .imm f (mkWord hi lo) (by simp [immFits, hsiz])⟩
    | false =>
      obtain ⟨rfl, rfl⟩ : f (zext lo) = i ∧ tail = rest := by simpa [hsiz] using h
      refine ⟨_, ?_, .imm f (zext lo) ?_⟩
      · simp [encodeImm, hsiz]
      · have := lo.isLt
        simp [immFits, zext_toNat, this]
  case h_4 f z tail =>
    cases h
    exact ⟨[z], rfl, .byte f z⟩
  case h_5 f lo hi tail =>
    cases h
    exact ⟨_, by simp, .word f (mkWord hi lo)⟩
  case h_6 f g lo tail =>
    cases hind : ps.ind with
    | true =>
      cases tail with
      | nil => simp [hind] at h
      | cons hi tail =>
        obtain ⟨rfl, rfl⟩ : g (mkWord hi lo) = i ∧ tail = rest := by simpa [hind] using h
        exact ⟨_, by simp, .rel16 f g (mkWord hi lo) hind⟩
    | false =>
      obtain ⟨rfl, rfl⟩ : f lo = i ∧ tail = rest := by simpa [hind] using h
      exact ⟨[lo], rfl, .rel f g lo (by rw [hind]; rfl)⟩
  case h_7 f z r tail =>
    cases h
    exact ⟨[z, r], rfl, .zprel f z r⟩
  case h_8 => cases h

/-- What an entry yields, the decoder reads, and stops where the operand ends. -/
theorem decodeOperand_of_yields {ps : PrefixState} {e : Entry} {i : Instr} {tail : List Byte}
    (h : e.Yields ps i tail) (rest : List Byte) : decodeOperand ps e (tail ++ rest) = some (i, rest) := by
  cases h with
  | one => rfl
  | plain _ _ h =>
    have hlsr : (ps.ind && ps.siz) = false := by rwa [Bool.not_eq_true'] at h
    simp [decodeOperand, hlsr]
  | arith _ _ h => simp [decodeOperand, h]
  | imm f v h =>
    cases hsiz : ps.siz with
    | true => simp [decodeOperand, encodeImm, hsiz]
    | false =>
      have hv : v.toNat < 256 := by simpa [immFits, hsiz] using h
      simp [decodeOperand, encodeImm, hsiz, zext_loByte_of_lt hv]
  | byte => rfl
  | word => simp [decodeOperand, encodeWord]
  | rel _ _ _ h =>
    have hind : ps.ind = false := by simpa using h
    simp [decodeOperand, hind]
  | rel16 _ _ _ h => simp [decodeOperand, encodeWord, h]
  | zprel => rfl

/-- The operand decoder reads exactly what the entry yields. -/
theorem decodeOperand_eq_some_iff {ps : PrefixState} {e : Entry} {i : Instr} {bytes rest : List Byte} :
    decodeOperand ps e bytes = some (i, rest) ↔ ∃ tail, bytes = tail ++ rest ∧ e.Yields ps i tail := by
  constructor
  · exact yields_of_decodeOperand
  · rintro ⟨tail, rfl, h⟩
    exact decodeOperand_of_yields h rest

/-! ## The encoder against the opcode map -/

/-- The encoder writes what the entry at `op` yields, and calls it well-formed. -/
def Entry.Encodes (cfg : Config) (ps : PrefixState) (op : Byte) (e : Entry) : Prop :=
  match e with
  | .one i => encode cfg ps i = [op] ∧ i.wf cfg ps = true
  | .lsrA i j =>
    encode cfg ps i = [op] ∧ encode cfg ps j = [op] ∧ i.wf cfg ps = (!(ps.ind && ps.siz)) ∧
      j.wf cfg ps = (ps.ind && ps.siz)
  | .imm f => ∀ v, encode cfg ps (f v) = op :: encodeImm ps v ∧ (f v).wf cfg ps = immFits ps v
  | .byte f => ∀ z, encode cfg ps (f z) = [op, z] ∧ (f z).wf cfg ps = true
  | .word f => ∀ a, encode cfg ps (f a) = op :: encodeWord a ∧ (f a).wf cfg ps = true
  | .rel f g =>
    (∀ r, encode cfg ps (f r) = [op, r] ∧ (f r).wf cfg ps = !ps.ind) ∧
      ∀ r, encode cfg ps (g r) = op :: encodeWord r ∧ (g r).wf cfg ps = ps.ind
  | .zprel f => ∀ z r, encode cfg ps (f z r) = [op, z, r] ∧ (f z r).wf cfg ps = true

/-- Every entry of a row of the map, its first at opcode `n`, is encoded as itself. -/
def RowEncodes (cfg : Config) (ps : PrefixState) : Nat → List (Option Entry) → Prop
  | _, [] => True
  | n, none :: row => RowEncodes cfg ps (n + 1) row
  | n, some e :: row => e.Encodes cfg ps (BitVec.ofNat 8 n) ∧ RowEncodes cfg ps (n + 1) row

theorem RowEncodes.getD {cfg : Config} {ps : PrefixState} {row : List (Option Entry)} :
    ∀ {n k : Nat} {e : Entry}, RowEncodes cfg ps n row → row.getD k none = some e →
      e.Encodes cfg ps (BitVec.ofNat 8 (n + k)) := by
  induction row with
  | nil => intro n k e _ h; simp at h
  | cons x row ih =>
    intro n k e hrow h
    have htail : RowEncodes cfg ps (n + 1) row := by
      cases x with
      | none => exact hrow
      | some _ => exact hrow.2
    cases k with
    | zero =>
      obtain rfl : x = some e := h
      exact hrow.1
    | succ k =>
      have hk : n + (k + 1) = n + 1 + k := by omega
      exact hk ▸ ih htail h

/-- Row by row, the encoder agrees with the map (30_encoding.md R91). -/
theorem rowEncodes_opcodeMap (cfg : Config) (ps : PrefixState) :
    ∀ h : Fin 16, RowEncodes cfg ps (h.val * 16) (opcodeMap.getD h.val []) := by
  intro h
  fin_cases h
  all_goals
    repeat' apply And.intro
    all_goals first | exact trivial | exact fun _ => ⟨rfl, rfl⟩ | exact fun _ _ => ⟨rfl, rfl⟩ | rfl

theorem encodes_of_baseEntry {cfg : Config} {ps : PrefixState} {op : Byte} {e : Entry} (h : baseEntry op = some e) :
    e.Encodes cfg ps op := by
  have hop := op.isLt
  have hrow := (rowEncodes_opcodeMap cfg ps ⟨op.toNat / 16, by omega⟩).getD h
  rwa [Nat.div_add_mod' op.toNat 16, BitVec.ofNat_toNat, BitVec.setWidth_eq] at hrow

/-- What a base entry yields is encoded as its opcode and those operand bytes, and is well-formed. -/
theorem encode_of_yields {cfg : Config} {ps : PrefixState} {op : Byte} {e : Entry} {i : Instr} {tail : List Byte}
    (hop : baseEntry op = some e) (h : e.Yields ps i tail) : encode cfg ps i = op :: tail ∧ i.wf cfg ps = true := by
  have hentry : e.Encodes cfg ps op := encodes_of_baseEntry hop
  cases h with
  | one => exact hentry
  | plain _ _ h => exact ⟨hentry.1, hentry.2.2.1.trans h⟩
  | arith _ _ h => exact ⟨hentry.2.1, hentry.2.2.2.trans h⟩
  | imm _ v h => exact ⟨(hentry v).1, (hentry v).2.trans h⟩
  | byte _ z => exact hentry z
  | word _ a => exact hentry a
  | rel _ _ r h => exact ⟨(hentry.1 r).1, (hentry.1 r).2.trans h⟩
  | rel16 _ _ r h => exact ⟨(hentry.2 r).1, (hentry.2 r).2.trans h⟩
  | zprel _ z r => exact hentry z r

/-- The instruction has a base opcode, whose entry yields it with the operand bytes that the encoder writes. -/
def Instr.InMap (cfg : Config) (ps : PrefixState) (i : Instr) : Prop :=
  ∃ op e tail, baseEntry op = some e ∧ encode cfg ps i = op :: tail ∧ e.Yields ps i tail

/-- Every well-formed instruction is an extension instruction or stands in the map. -/
theorem ext_or_inMap {cfg : Config} {ps : PrefixState} {i : Instr} (h : i.wf cfg ps = true) :
    (∃ x : ExtOp, i = x.instr) ∨ i.InMap cfg ps := by
  cases i with
  | osx => exact .inl ⟨.osx, rfl⟩
  | ind => exact .inl ⟨.ind, rfl⟩
  | siz => exact .inl ⟨.siz, rfl⟩
  | oax => exact .inl ⟨.oax, rfl⟩
  | oay => exact .inl ⟨.oay, rfl⟩
  | osz => exact .inl ⟨.osz, rfl⟩
  | ois => exact .inl ⟨.ois, rfl⟩
  | isz => exact .inl ⟨.isz, rfl⟩
  | dup => exact .inl ⟨.dup, rfl⟩
  | swp => exact .inl ⟨.swp, rfl⟩
  | rot => exact .inl ⟨.rot, rfl⟩
  | nxt => exact .inl ⟨.nxt, rfl⟩
  | ent => exact .inl ⟨.ent, rfl⟩
  | phi => exact .inl ⟨.phi, rfl⟩
  | pli => exact .inl ⟨.pli, rfl⟩
  | ini => exact .inl ⟨.ini, rfl⟩
  | lsrAcc => exact .inr ⟨0x4A#8, _, _, rfl, rfl, .plain _ _ h⟩
  | asr => exact .inr ⟨0x4A#8, _, _, rfl, rfl, .arith _ _ h⟩
  | _ =>
    right
    first
      | exact ⟨_, _, _, rfl, rfl, .one _⟩
      | exact ⟨_, _, _, rfl, rfl, .byte _ _⟩
      | exact ⟨_, _, _, rfl, rfl, .word _ _⟩
      | exact ⟨_, _, _, rfl, rfl, .imm _ _ h⟩
      | exact ⟨_, _, _, rfl, rfl, .rel _ _ _ h⟩
      | exact ⟨_, _, _, rfl, rfl, .rel16 _ _ _ h⟩
      | exact ⟨_, _, _, rfl, rfl, .zprel _ _ _⟩

/-! ## The extension slots -/

theorem distinct_iff_nodup {α : Type} [DecidableEq α] (l : List α) : distinct l = true ↔ l.Nodup := by
  induction l with
  | nil => simp [distinct]
  | cons x l ih => simp [distinct, ih]

/-- Where keys are distinct, the first element with the key of a member is that member. -/
theorem find?_key_of_mem {α κ : Type} [DecidableEq κ] (key : α → κ) {l : List α} (hl : (l.map key).Nodup) {x : α}
    (hx : x ∈ l) : l.find? (fun p => key p = key x) = some x := by
  induction l with
  | nil => cases hx
  | cons y l ih =>
    rw [List.map_cons, List.nodup_cons] at hl
    obtain rfl | hx := List.mem_cons.mp hx
    · simp
    · have hne : key y ≠ key x := fun h => hl.1 (h ▸ List.mem_map_of_mem hx)
      rw [List.find?_cons_of_neg (by simpa using hne)]
      exact ih hl.2 hx

/-- What an admitted configuration says of the extension opcodes (30_encoding.md R94, R95). -/
theorem Config.extOpcodes_of_wf {cfg : Config} (h : cfg.wf = true) :
    (∀ x ∈ cfg.extOpcodes, x.2 ∈ freeSlots) ∧ (cfg.extOpcodes.map Prod.snd).Nodup ∧
      (cfg.extOpcodes.map Prod.fst).Nodup := by
  simp only [Config.wf, Bool.and_eq_true, List.all_eq_true, distinct_iff_nodup, List.contains_iff_mem] at h
  obtain ⟨⟨hfree, hslots⟩, hnames⟩ := h
  refine ⟨fun x hx => hfree x.2 ?_, ?_, hnames⟩
  · exact List.mem_append_left _ (List.mem_append_left _ (List.mem_map_of_mem hx))
  · exact (List.nodup_append.mp (List.nodup_append.mp hslots).1).1

theorem Config.extOpcode_eq_some_iff {cfg : Config} (h : cfg.wf = true) {x : ExtOp} {op : Byte} :
    cfg.extOpcode x = some op ↔ (x, op) ∈ cfg.extOpcodes := by
  constructor
  · intro hx
    obtain ⟨⟨x', op'⟩, hfind, rfl⟩ := Option.map_eq_some_iff.mp hx
    obtain rfl : x' = x := by simpa using List.find?_some hfind
    exact List.mem_of_find?_eq_some hfind
  · intro hmem
    rw [Config.extOpcode, find?_key_of_mem Prod.fst (Config.extOpcodes_of_wf h).2.2 hmem]
    rfl

theorem slotKind_eq_ext_iff {cfg : Config} (h : cfg.wf = true) {x : ExtOp} {op : Byte} :
    slotKind cfg op = .ext x ↔ (x, op) ∈ cfg.extOpcodes := by
  constructor
  · intro hx
    unfold slotKind at hx
    split at hx
    next x' op' hfind =>
      cases hx
      obtain rfl : op' = op := by simpa using List.find?_some hfind
      exact List.mem_of_find?_eq_some hfind
    next =>
      split at hx
      · cases hx
      · split at hx <;> cases hx
  · intro hmem
    simp only [slotKind, find?_key_of_mem Prod.snd (Config.extOpcodes_of_wf h).2.1 hmem]

@[simp] theorem encode_ext (cfg : Config) (ps : PrefixState) (x : ExtOp) :
    encode cfg ps x.instr = (cfg.extOpcode x).toList := by
  cases x <;> rfl

@[simp] theorem wf_ext (cfg : Config) (ps : PrefixState) (x : ExtOp) :
    x.instr.wf cfg ps = (cfg.extOpcode x).isSome := by
  cases x <;> rfl

/-- An extension instruction that is well-formed is encoded as a free slot that the decoder reads as it. -/
theorem encode_ext_of_wf {cfg : Config} {ps : PrefixState} {x : ExtOp} (hcfg : cfg.wf = true)
    (h : x.instr.wf cfg ps = true) :
    ∃ op, encode cfg ps x.instr = [op] ∧ baseEntry op = none ∧ slotKind cfg op = .ext x := by
  rw [wf_ext] at h
  obtain ⟨op, hop⟩ := Option.isSome_iff_exists.mp h
  have hmem := (Config.extOpcode_eq_some_iff hcfg).mp hop
  refine ⟨op, by simp [hop], ?_, (slotKind_eq_ext_iff hcfg).mpr hmem⟩
  exact (baseEntry_eq_none_iff op).mpr ((Config.extOpcodes_of_wf hcfg).1 _ hmem)

/-! ## The decoder -/

/-- The bytes decode to an instruction exactly where their first is a base opcode whose entry yields it, or an extension
slot of it. -/
theorem decode_eq_instr_iff {cfg : Config} {ps : PrefixState} {bytes rest : List Byte} {i : Instr} :
    decode cfg ps bytes = .ok (.instr i, rest) ↔
      ∃ op tail, bytes = op :: (tail ++ rest) ∧
        ((∃ e, baseEntry op = some e ∧ e.Yields ps i tail) ∨
          baseEntry op = none ∧ tail = [] ∧ ∃ x : ExtOp, slotKind cfg op = .ext x ∧ i = x.instr) := by
  constructor
  · intro h
    cases bytes with
    | nil => cases h
    | cons op after =>
      rw [decode] at h
      split at h
      next e hop =>
        split at h
        next i' rest' hdec =>
          cases h
          obtain ⟨tail, rfl, hyields⟩ := decodeOperand_eq_some_iff.mp hdec
          exact ⟨op, tail, rfl, .inl ⟨e, hop, hyields⟩⟩
        next => cases h
      next hop =>
        split at h
        next x hslot =>
          cases h
          exact ⟨op, [], rfl, .inr ⟨hop, rfl, x, hslot, rfl⟩⟩
        next => split at h <;> cases h
        next => cases h
        next => cases h
  · rintro ⟨op, tail, rfl, ⟨e, hop, hyields⟩ | ⟨hop, rfl, x, hslot, rfl⟩⟩
    · simp [decode, hop, decodeOperand_of_yields hyields]
    · simp [decode, hop, hslot]

/-- Settles O6: an extension instruction is read back from its slot, any other by its entry in the map. -/
theorem decodeOfEncodeIsTheInstruction : Obligations.DecodeOfEncodeIsTheInstruction := by
  unfold Obligations.DecodeOfEncodeIsTheInstruction
  intro cfg ps i rest hcfg hwf
  rw [decode_eq_instr_iff]
  obtain ⟨x, rfl⟩ | ⟨op, e, tail, hop, hencode, hyields⟩ := ext_or_inMap hwf
  · obtain ⟨op, hencode, hop, hslot⟩ := encode_ext_of_wf hcfg hwf
    exact ⟨op, [], by rw [hencode]; rfl, .inr ⟨hop, rfl, x, hslot, rfl⟩⟩
  · exact ⟨op, tail, by rw [hencode]; rfl, .inl ⟨e, hop, hyields⟩⟩

/-- Settles O7: what a base entry or an extension slot yields, the encoder writes as these very bytes. -/
theorem encodeOfDecodeIsTheBytes : Obligations.EncodeOfDecodeIsTheBytes := by
  unfold Obligations.EncodeOfDecodeIsTheBytes
  intro cfg ps bytes i rest hcfg hdecode
  obtain ⟨op, tail, rfl, ⟨e, hop, hyields⟩ | ⟨-, rfl, x, hslot, rfl⟩⟩ := decode_eq_instr_iff.mp hdecode
  · obtain ⟨hencode, hwf⟩ := encode_of_yields (cfg := cfg) hop hyields
    exact ⟨by rw [hencode]; rfl, hwf⟩
  · have hop : cfg.extOpcode x = some op :=
      (Config.extOpcode_eq_some_iff hcfg).mpr ((slotKind_eq_ext_iff hcfg).mp hslot)
    simp [hop]

/-! ## Lengths -/

/-- An entry yields as many operand bytes as the opcode's length says (30_encoding.md R86, R88). -/
theorem opLength_of_yields {cfg : Config} {ps : PrefixState} {op : Byte} {e : Entry} {i : Instr} {tail : List Byte}
    (hop : baseEntry op = some e) (h : e.Yields ps i tail) :
    tail.length + 1 = opLength cfg ps op ∧ tail.length ≤ 2 := by
  cases h with
  | one => simp [opLength, hop]
  | plain => simp [opLength, hop]
  | arith => simp [opLength, hop]
  | imm => cases hsiz : ps.siz <;> simp [opLength, hop, encodeImm, hsiz]
  | byte => simp [opLength, hop]
  | word => simp [opLength, hop, encodeWord]
  | rel _ _ _ h =>
    have hind : ps.ind = false := by simpa using h
    simp [opLength, hop, hind]
  | rel16 _ _ _ h => simp [opLength, hop, encodeWord, h]
  | zprel => simp [opLength, hop]

/-- An extension slot is one byte long. -/
theorem opLength_of_ext {cfg : Config} {ps : PrefixState} {op : Byte} {x : ExtOp} (hop : baseEntry op = none)
    (hslot : slotKind cfg op = .ext x) : opLength cfg ps op = 1 := by
  simp [opLength, hop, hslot]

/-- Settles O8. -/
theorem encodedLengthFollowsTheOpcode : Obligations.EncodedLengthFollowsTheOpcode := by
  unfold Obligations.EncodedLengthFollowsTheOpcode
  intro cfg ps i hcfg hwf
  obtain ⟨x, rfl⟩ | ⟨op, e, tail, hop, hencode, hyields⟩ := ext_or_inMap hwf
  · obtain ⟨op, hencode, hop, hslot⟩ := encode_ext_of_wf hcfg hwf
    exact ⟨op, [], hencode, (opLength_of_ext hop hslot).symm, by simp⟩
  · exact ⟨op, tail, hencode, opLength_of_yields hop hyields⟩

end Sys2Proof

/-! PROOF. When an instruction answers a next state (41_prefix.md R157): those that honour oax and oay are guarded by the
conflict of the two, every other one always answers. -/

namespace Sys2Proof.Machine

open Sys2Proof.Safety

/-- The meaning faults exactly under the conflict of oax and oay, and answers a next state otherwise. -/
def Guarded (f : State → Result) : Prop := ∀ s, ∃ t, f s = guardExchange s t

/-- The meaning answers a next state in every state. -/
def Total (f : State → Result) : Prop := ∀ s, ∃ t, f s = .next t

theorem Guarded.fault {f : State → Result} (h : Guarded f) {s : State} (hc : s.conflict = true) :
    f s = .fault .prefixConflict := by
  obtain ⟨t, ht⟩ := h s
  rw [ht, guardExchange_of_conflict t hc]

theorem Guarded.next {f : State → Result} (h : Guarded f) {s : State} (hc : s.conflict = false) :
    ∃ t, f s = .next t := by
  obtain ⟨t, ht⟩ := h s
  exact ⟨t, by rw [ht, guardExchange_of_no_conflict t hc]⟩

/-! ## Data operations -/

/-- The operations that an instruction may give an immediate operand. -/
def takesImmediate : IppOp → Bool
  | .lda => true
  | .ldx => true
  | .ldy => true
  | .adc => true
  | .sbc => true
  | .and => true
  | .ora => true
  | .eor => true
  | .cmp => true
  | .cpx => true
  | .cpy => true
  | .bit => true
  | _ => false

/-- RMBn and SMBn, the data operations outside the exchange (44_rmw_bit.md R275). -/
def isMemoryBit : IppOp → Bool
  | .rmb _ => true
  | .smb _ => true
  | _ => false

/-- No instruction gives an immediate to an operation that has none, so each has the operand its meaning asks for. -/
theorem operand_of_dataForm {i : Instr} {op : IppOp} {o : Operand} (h : dataForm i = some (op, o)) :
    takesImmediate op = true ∨ ∃ m, o = .mem m := by
  cases i <;> first
    | (cases h; exact .inl rfl)
    | (cases h; exact .inr ⟨_, rfl⟩)
    | nomatch h

/-- No operand of an instruction of the table is in ipp mode. -/
theorem isIpp_of_dataForm {i : Instr} {op : IppOp} {o : Operand} (h : dataForm i = some (op, o)) :
    isIpp o = false := by
  cases i <;> first
    | (cases h; rfl)
    | nomatch h

theorem dataMeaning_guarded {op : IppOp} {o : Operand} (hbit : isMemoryBit op = false)
    (ho : takesImmediate op = true ∨ ∃ m, o = .mem m) : Guarded (dataMeaning op o) := by
  intro s
  obtain himm | ⟨m, rfl⟩ := ho
  · cases op with
    | bit => cases o <;> exact ⟨_, rfl⟩
    | lda | ldx | ldy | adc | sbc | and | ora | eor | cmp | cpx | cpy => exact ⟨_, rfl⟩
    | _ => nomatch himm
  · cases op with
    | rmb n => nomatch hbit
    | smb n => nomatch hbit
    | _ => exact ⟨_, rfl⟩

theorem dataMeaning_total {op : IppOp} {o : Operand} (hbit : isMemoryBit op = true) : Total (dataMeaning op o) := by
  intro s
  cases op with
  | rmb n => cases o <;> exact ⟨_, rfl⟩
  | smb n => cases o <;> exact ⟨_, rfl⟩
  | _ => nomatch hbit

theorem honoursExchange_of_dataForm {i : Instr} {op : IppOp} {o : Operand} (h : dataForm i = some (op, o)) :
    honoursExchange i = !isMemoryBit op := by
  rw [honoursExchange, h]
  cases op <;> rfl

/-! ## Every instruction -/

/-- LSR A and ASR are guarded alike. -/
theorem exec_registerForm_guarded {i : Instr} {op : IppOp} {r : RegName} (h : registerForm i = some (op, r)) :
    Guarded (exec i) := by
  intro s
  by_cases hl : i = .lsrAcc → (s.ps.ind && s.ps.siz) = false
  · rw [exec_of_registerForm h s hl]
    exact ⟨_, rfl⟩
  · obtain ⟨rfl, hl'⟩ : i = .lsrAcc ∧ (s.ps.ind && s.ps.siz) = true := by simpa using hl
    have hexec : exec .lsrAcc s = arithShift s := if_pos hl'
    exact hexec ▸ ⟨_, rfl⟩

/-- What an instruction's row says of the exchange decides when it faults (41_prefix.md R157, R160). -/
def AnswersAsItsRow (i : Instr) : Prop :=
  honoursExchange i = true ∧ Guarded (exec i) ∨ honoursExchange i = false ∧ Total (exec i)

theorem exec_answersAsItsRow (i : Instr) : AnswersAsItsRow i := by
  induction i using form_cases with
  | data i op o hf =>
    unfold AnswersAsItsRow
    rw [exec_of_dataForm hf, honoursExchange_of_dataForm hf]
    cases hbit : isMemoryBit op with
    | false => exact .inl ⟨rfl, dataMeaning_guarded hbit (operand_of_dataForm hf)⟩
    | true => exact .inr ⟨rfl, dataMeaning_total hbit⟩
  | register i op r hf =>
    refine .inl ⟨?_, exec_registerForm_guarded hf⟩
    cases i <;> first | rfl | nomatch hf
  | rel i c r hf =>
    refine .inr ⟨?_, fun s => ⟨_, exec_of_relForm hf s⟩⟩
    cases i <;> first | rfl | nomatch hf
  | rel16 i c r hf =>
    refine .inr ⟨?_, fun s => ⟨_, exec_of_rel16Form hf s⟩⟩
    cases i <;> first | rfl | nomatch hf
  | bitBranch i n b z r hf =>
    refine .inr ⟨?_, fun s => ⟨_, congrFun (exec_of_bitBranchForm hf) s⟩⟩
    cases i <;> first | rfl | nomatch hf
  | transfer i src dst hf =>
    refine .inl ⟨?_, fun s => ⟨_, congrFun (exec_of_transferForm hf) s⟩⟩
    cases i <;> first | rfl | nomatch hf
  | push i r hf =>
    refine .inl ⟨?_, fun s => ⟨_, congrFun (exec_of_pushForm hf) s⟩⟩
    cases i <;> first | rfl | nomatch hf
  | pull i r hf =>
    refine .inl ⟨?_, fun s => ⟨_, congrFun (exec_of_pullForm hf) s⟩⟩
    cases i <;> first | rfl | nomatch hf
  | flag i f v hf =>
    refine .inr ⟨?_, fun s => ⟨_, congrFun (exec_of_flagForm hf) s⟩⟩
    cases i <;> first | rfl | nomatch hf
  | isPre i hp =>
    refine .inr ⟨?_, fun s => ?_⟩
    · cases i <;> first | rfl | nomatch hp
    · obtain ⟨ps, hps⟩ := exec_of_isPrefix hp s
      exact ⟨_, hps⟩
  | asr => exact .inl ⟨rfl, fun s => ⟨_, rfl⟩⟩
  | txs => exact .inl ⟨rfl, fun s => ⟨_, rfl⟩⟩
  | tsx => exact .inl ⟨rfl, fun s => ⟨_, rfl⟩⟩
  | dup => exact .inl ⟨rfl, fun s => ⟨_, rfl⟩⟩
  | swp => exact .inl ⟨rfl, fun s => ⟨_, rfl⟩⟩
  | rot => exact .inl ⟨rfl, fun s => ⟨_, rfl⟩⟩
  | jmpAbsXI a => exact .inl ⟨rfl, fun s => ⟨_, rfl⟩⟩
  | php => exact .inr ⟨rfl, fun s => ⟨_, rfl⟩⟩
  | plp => exact .inr ⟨rfl, fun s => ⟨_, rfl⟩⟩
  | jsr a => exact .inr ⟨rfl, fun s => ⟨_, rfl⟩⟩
  | jmpAbs a => exact .inr ⟨rfl, fun s => ⟨_, rfl⟩⟩
  | jmpAbsI a => exact .inr ⟨rfl, fun s => ⟨_, rfl⟩⟩
  | rts => exact .inr ⟨rfl, fun s => ⟨_, rfl⟩⟩
  | brk => exact .inr ⟨rfl, fun s => ⟨_, rfl⟩⟩
  | rti => exact .inr ⟨rfl, fun s => ⟨_, rfl⟩⟩
  | nop => exact .inr ⟨rfl, fun s => ⟨_, rfl⟩⟩
  | nxt => exact .inr ⟨rfl, fun s => ⟨_, rfl⟩⟩
  | ent => exact .inr ⟨rfl, fun s => ⟨_, rfl⟩⟩
  | phi => exact .inr ⟨rfl, fun s => ⟨_, rfl⟩⟩
  | pli => exact .inr ⟨rfl, fun s => ⟨_, rfl⟩⟩
  | ini => exact .inr ⟨rfl, fun s => ⟨_, rfl⟩⟩

/-- Settles O29. -/
theorem prefixConflictFaults : Obligations.PrefixConflictFaults := by
  unfold Obligations.PrefixConflictFaults
  intro i s
  obtain ⟨hrow, hguard⟩ | ⟨hrow, htotal⟩ := exec_answersAsItsRow i
  · exact ⟨fun _ hc => hguard.fault hc, fun h => hguard.next (h.resolve_left (by simp [hrow]))⟩
  · exact ⟨fun h => absurd h (by simp [hrow]), fun _ => htotal s⟩

/-- An instruction answers a next state, or faults under the conflict. -/
theorem exec_next_or_fault (i : Instr) (s : State) :
    (∃ t, exec i s = .next t) ∨ exec i s = .fault .prefixConflict ∧ s.conflict = true := by
  obtain ⟨-, hguard⟩ | ⟨-, htotal⟩ := exec_answersAsItsRow i
  · cases hc : s.conflict with
    | false => exact .inl (hguard.next hc)
    | true => exact .inr ⟨hguard.fault hc, rfl⟩
  · exact .inl (htotal s)

theorem execIpp_next_or_fault (o : IppOp) (s : State) :
    (∃ t, execIpp o s = .next t) ∨ execIpp o s = .fault .prefixConflict ∧ s.conflict = true := by
  rw [execIpp_eq]
  cases hbit : isMemoryBit o with
  | true => exact .inl (dataMeaning_total hbit s)
  | false =>
    have hguard := dataMeaning_guarded hbit (.inr ⟨.ipp, rfl⟩)
    cases hc : s.conflict with
    | false => exact .inl (hguard.next hc)
    | true => exact .inr ⟨hguard.fault hc, rfl⟩

end Sys2Proof.Machine

/-! PROOF. When a step stops (00_scope.md R15, 30_encoding.md R98, 41_prefix.md R157), and that a stopped run stays
stopped (10_state.md R50). -/

namespace Sys2Proof.Machine

/-- Two bytes after the opcode are enough for every entry, so a step never runs out of bytes (30_encoding.md R86,
log 13). -/
theorem decodeOperand_isSome (ps : PrefixState) (e : Entry) (b c : Byte) :
    (decodeOperand ps e [b, c]).isSome = true := by
  cases e with
  | imm f => cases hsiz : ps.siz <;> simp [decodeOperand, hsiz]
  | rel f g => cases hind : ps.ind <;> simp [decodeOperand, hind]
  | _ => rfl

/-- The bytes at PC are no instruction only where the opcode is a refused slot. -/
theorem decodeAt_eq_error {s : State} {e : DecodeError} (h : decodeAt s = .error e) :
    e = .unassignedSlot s.opcode ∧ baseEntry s.opcode = none ∧ slotKind s.cfg s.opcode = .refused := by
  rw [decodeAt, fetchWindow, decode] at h
  split at h
  next entry hop =>
    obtain ⟨⟨i, rest⟩, hi⟩ := Option.isSome_iff_exists.mp
      (decodeOperand_isSome s.ps entry (s.readByte (s.pc + 1#16)) (s.readByte (s.pc + 2#16)))
    rw [hi] at h
    cases h
  next hop =>
    split at h
    next => cases h
    next => cases h
    next => cases h
    next hslot =>
      cases h
      exact ⟨rfl, hop, hslot⟩

/-- Running what was decoded answers a next state, or faults under the conflict. -/
theorem runDecoded_next_or_fault (d : Decoded) (n : Nat) (op : Byte) (s : State) :
    (∃ t, runDecoded d n op s = .next t) ∨ runDecoded d n op s = .fault .prefixConflict ∧ s.conflict = true := by
  cases d with
  | instr i =>
    obtain ⟨t, ht⟩ | ⟨hfault, hc⟩ := exec_next_or_fault i (s.fetched n)
    · exact .inl ⟨finish i op t, by simp [runDecoded, ht, andThen]⟩
    · exact .inr ⟨by simp [runDecoded, hfault, andThen], hc⟩
  | ipp o =>
    obtain ⟨t, ht⟩ | ⟨hfault, hc⟩ := execIpp_next_or_fault o (s.fetched n)
    · exact .inl ⟨finishInstr op t, by simp [runDecoded, ht, andThen]⟩
    · exact .inr ⟨by simp [runDecoded, hfault, andThen], hc⟩
  | unimplemented => exact .inl ⟨_, rfl⟩

/-- The three outcomes of a step. -/
theorem step_outcomes (s : State) :
    (∃ t, step s = .next t) ∨ step s = .fault .prefixConflict ∧ s.conflict = true ∨
      step s = .refused (.unassignedSlot s.opcode) ∧ baseEntry s.opcode = none ∧
        slotKind s.cfg s.opcode = .refused := by
  unfold step
  split
  next t _ => exact .inl ⟨t, rfl⟩
  next =>
    split
    next e hdecode =>
      obtain ⟨rfl, hbase, hslot⟩ := decodeAt_eq_error hdecode
      exact .inr (.inr ⟨rfl, hbase, hslot⟩)
    next d rest _ => exact (runDecoded_next_or_fault d _ _ s).imp_right .inl

/-- A step that stops keeps the hardware state and sets a mark. -/
theorem markedStep_of_stop {m : Marked} (h : ∀ t, step m.hw ≠ .next t) :
    (markedStep m).hw = m.hw ∧ (m.mark = .running → (markedStep m).mark ≠ .running) := by
  unfold markedStep
  split
  · split
    next t ht => exact absurd ht (h t)
    next => exact ⟨rfl, by simp⟩
    next => exact ⟨rfl, by simp⟩
  next hmark => exact ⟨rfl, fun hrun => absurd hrun hmark⟩

/-- A marked state does not move. -/
theorem markedStep_of_marked {m : Marked} (h : m.mark ≠ .running) : markedStep m = m := by
  unfold markedStep
  split
  next hrun => exact absurd hrun h
  next => rfl

/-- Settles O28. -/
theorem stepStopsOnlyAsTheSpecSays : Obligations.StepStopsOnlyAsTheSpecSays := by
  unfold Obligations.StepStopsOnlyAsTheSpecSays
  refine ⟨fun s => ?_, fun m n => ⟨fun hstop => ?_, fun hmark => ?_⟩⟩
  · refine (step_outcomes s).imp_right (Or.imp_left fun ⟨hfault, hc⟩ => ?_)
    exact ⟨hfault, (Bool.and_eq_true_iff.mp hc).1, (Bool.and_eq_true_iff.mp hc).2⟩
  · obtain ⟨hhw, hsets⟩ := markedStep_of_stop hstop
    refine ⟨hhw, ?_⟩
    by_cases hrun : m.mark = .running
    · exact hsets hrun
    · rwa [markedStep_of_marked hrun]
  · exact ⟨Function.iterate_fixed (markedStep_of_marked hmark) n, rfl⟩

end Sys2Proof.Machine

/-! PROOF. What every instruction keeps: the inputs, the inactive stack pointer and the Forth pointers. An ordinary
instruction keeps them all (`exec_ordinary`); a trap, the return from one, PLP and the Forth words are looked at one by
one. -/

namespace Sys2Proof.Machine

open Sys2Proof.Safety

/-! ## A trap and the return from one -/

@[simp] theorem trapEntry_a (v : Word) (s : State) : (trapEntry v s).a = s.a := by unfold trapEntry; split <;> simp
@[simp] theorem trapEntry_x (v : Word) (s : State) : (trapEntry v s).x = s.x := by unfold trapEntry; split <;> simp
@[simp] theorem trapEntry_y (v : Word) (s : State) : (trapEntry v s).y = s.y := by unfold trapEntry; split <;> simp
@[simp] theorem trapEntry_ip (v : Word) (s : State) : (trapEntry v s).ip = s.ip := by unfold trapEntry; split <;> simp
@[simp] theorem trapEntry_wp (v : Word) (s : State) : (trapEntry v s).wp = s.wp := by unfold trapEntry; split <;> simp
@[simp] theorem trapEntry_nmiPending (v : Word) (s : State) : (trapEntry v s).nmiPending = s.nmiPending := by
  unfold trapEntry; split <;> simp
@[simp] theorem trapEntry_irq (v : Word) (s : State) : (trapEntry v s).irq = s.irq := by
  unfold trapEntry; split <;> simp
@[simp] theorem trapEntry_cfg (v : Word) (s : State) : (trapEntry v s).cfg = s.cfg := by
  unfold trapEntry; split <;> simp
@[simp] theorem trapEntry_counters (v : Word) (s : State) :
    (trapEntry v s).counters =
      { s.counters with dataReads := s.counters.dataReads + 2, dataWrites := s.counters.dataWrites + 3 } := by
  unfold trapEntry; split <;> simp

theorem trapEntry_wf (v : Word) (s : State) (h : s.mem.wf = true) : (trapEntry v s).mem.wf = true := by
  unfold trapEntry
  split
  · simpa using State.push8_wf _ (withBreak s.p) (State.push16_wf (s.setP .m true) s.pc h)
  · simpa using State.push8_wf _ (withBreak s.p) (State.push16_wf s s.pc h)

@[simp] theorem trapReturn_a (s : State) : (trapReturn s).a = s.a := by unfold trapReturn; split <;> simp
@[simp] theorem trapReturn_x (s : State) : (trapReturn s).x = s.x := by unfold trapReturn; split <;> simp
@[simp] theorem trapReturn_y (s : State) : (trapReturn s).y = s.y := by unfold trapReturn; split <;> simp
@[simp] theorem trapReturn_ip (s : State) : (trapReturn s).ip = s.ip := by unfold trapReturn; split <;> simp
@[simp] theorem trapReturn_wp (s : State) : (trapReturn s).wp = s.wp := by unfold trapReturn; split <;> simp
@[simp] theorem trapReturn_ps (s : State) : (trapReturn s).ps = s.ps := by unfold trapReturn; split <;> simp
@[simp] theorem trapReturn_nmiPending (s : State) : (trapReturn s).nmiPending = s.nmiPending := by
  unfold trapReturn; split <;> simp
@[simp] theorem trapReturn_irq (s : State) : (trapReturn s).irq = s.irq := by unfold trapReturn; split <;> simp
@[simp] theorem trapReturn_mem (s : State) : (trapReturn s).mem = s.mem := by unfold trapReturn; split <;> simp
@[simp] theorem trapReturn_cfg (s : State) : (trapReturn s).cfg = s.cfg := by unfold trapReturn; split <;> simp
@[simp] theorem trapReturn_counters (s : State) :
    (trapReturn s).counters = { s.counters with dataReads := s.counters.dataReads + 3 } := by
  unfold trapReturn; split <;> simp

/-! ## The inputs and the canonical form of memory -/

/-- The configuration and the interrupt inputs stay, and memory stays in canonical form. -/
structure KeepsInputs (s t : State) : Prop where
  cfg : t.cfg = s.cfg
  irq : t.irq = s.irq
  nmiPending : t.nmiPending = s.nmiPending
  wf : s.mem.wf = true → t.mem.wf = true

theorem Ordinary.keepsInputs {ipp : Bool} {s t : State} (h : Ordinary ipp s t) : KeepsInputs s t :=
  ⟨h.cfg, h.irq, h.nmiPending, h.wf⟩

theorem trapEntry_keepsInputs (v : Word) (s : State) : KeepsInputs s (trapEntry v s) :=
  ⟨by simp, by simp, by simp, trapEntry_wf v s⟩

/-- The state whose PC is the return address that BRK pushes (46_control.md R370). -/
def brkReturn (s : State) : State := { s with pc := s.pc + s.cfg.brkReturnOffset.toWord - 1#16 }

theorem exec_brk (s : State) : exec .brk s = .next (trapEntry s.cfg.vecIrq (brkReturn s)) := rfl

theorem exec_keepsInputs {i : Instr} {s t : State} (h : exec i s = .next t) : KeepsInputs s t := by
  cases hi : isSpecial i with
  | false => exact (exec_ordinary hi h).keepsInputs
  | true =>
    cases i with
    | brk =>
      have hkeeps := trapEntry_keepsInputs s.cfg.vecIrq (brkReturn s)
      rw [exec_brk] at h
      cases h
      exact ⟨hkeeps.cfg, hkeeps.irq, hkeeps.nmiPending, hkeeps.wf⟩
    | rti => cases h; exact ⟨by simp, by simp, by simp, by simp⟩
    | plp => cases h; exact ⟨by simp, by simp, by simp, by simp⟩
    | nxt => cases h; exact ⟨rfl, rfl, rfl, id⟩
    | ent =>
      cases h
      have hpush := Ordinary.push16 (ipp := false) s.ip s
      exact ⟨hpush.cfg, hpush.irq, hpush.nmiPending, hpush.wf⟩
    | pli => cases h; exact ⟨by simp, by simp, by simp, by simp⟩
    | ini => cases h; exact ⟨rfl, rfl, rfl, id⟩
    | _ => nomatch hi

theorem execIpp_ordinary {o : IppOp} {s t : State} (h : execIpp o s = .next t) : Ordinary true s t := by
  rw [execIpp_eq] at h
  exact dataMeaning_ordinary h

/-- Nothing that a step runs writes an input. -/
theorem runDecoded_keepsInputs {d : Decoded} {n : Nat} {op : Byte} {s t : State}
    (h : runDecoded d n op s = .next t) : KeepsInputs s t := by
  cases d with
  | instr i =>
    obtain ⟨u, hexec, rfl⟩ := andThen_eq_next.mp h
    obtain ⟨hcfg, hirq, hnmi, hwf⟩ := exec_keepsInputs hexec
    unfold finish
    split <;> exact ⟨hcfg, hirq, hnmi, hwf⟩
  | ipp o =>
    obtain ⟨u, hexec, rfl⟩ := andThen_eq_next.mp h
    obtain ⟨hcfg, hirq, hnmi, hwf⟩ := (execIpp_ordinary hexec).keepsInputs
    exact ⟨hcfg, hirq, hnmi, hwf⟩
  | unimplemented => cases h; exact ⟨rfl, rfl, rfl, id⟩

/-- An interrupt entry keeps the inputs but for the NMI latch, which it may clear. -/
theorem acceptInterrupt_inputs {s t : State} (h : acceptInterrupt s = some t) :
    t.cfg = s.cfg ∧ t.irq = s.irq ∧ (s.mem.wf = true → t.mem.wf = true) ∧
      (t.nmiPending = s.nmiPending ∨ s.nmiPending = true ∧ t.nmiPending = false) := by
  obtain ⟨-, ⟨hnmi, rfl⟩ | ⟨-, -, -, rfl⟩⟩ := acceptInterrupt_eq_some.mp h
  · have hwf := trapEntry_wf s.cfg.vecNmi { s with nmiPending := false }
    exact ⟨by simp [nmiEntry], by simp [nmiEntry], by simpa [nmiEntry] using hwf, .inr ⟨hnmi, by simp [nmiEntry]⟩⟩
  · have hwf := trapEntry_wf s.cfg.vecIrq s
    exact ⟨by simp [irqEntry], by simp [irqEntry], by simpa [irqEntry] using hwf, .inl (by simp [irqEntry])⟩

theorem step_keepsInputs {s t : State} (h : step s = .next t) :
    t.cfg = s.cfg ∧ t.irq = s.irq ∧ (s.mem.wf = true → t.mem.wf = true) ∧
      (t.nmiPending = s.nmiPending ∨
        s.nmiPending = true ∧ t.nmiPending = false ∧ acceptInterrupt s = some t) := by
  obtain hentry | ⟨-, d, rest, -, hrun⟩ := step_eq_next.mp h
  · obtain ⟨hcfg, hirq, hwf, hnmi⟩ := acceptInterrupt_inputs hentry
    exact ⟨hcfg, hirq, hwf, hnmi.imp_right fun ⟨hset, hclear⟩ => ⟨hset, hclear, hentry⟩⟩
  · obtain ⟨hcfg, hirq, hnmi, hwf⟩ := runDecoded_keepsInputs hrun
    exact ⟨hcfg, hirq, hwf, .inl hnmi⟩

/-! ## A step keeps a sound state sound -/

/-- A prefix keeps lscx; the end of every other step clears it (`runDecoded_ps`). -/
theorem exec_isPrefix_lscx {i : Instr} (hp : isPrefix i = true) {s t : State} (h : exec i s = .next t) :
    t.ps.lscx = s.ps.lscx := by
  cases i with
  | ois =>
    change execOis s = .next t at h
    unfold execOis at h
    split at h <;> cases h <;> rfl
  | osx | ind | siz | oax | oay | osz | isz => cases h; rfl
  | _ => nomatch hp

theorem step_lscx {s t : State} (h : step s = .next t) (hs : s.ps.lscx = false) : t.ps.lscx = false := by
  obtain hentry | ⟨-, d, rest, -, hrun⟩ := step_eq_next.mp h
  · rw [acceptInterrupt_ps hentry]
    rfl
  · by_cases hd : ∀ i, d = .instr i → isPrefix i = false
    · rw [runDecoded_ps hrun hd]
      rfl
    · obtain ⟨i, rfl, hp⟩ : ∃ i, d = .instr i ∧ isPrefix i = true := by simpa using hd
      obtain ⟨u, hexec, rfl⟩ := andThen_eq_next.mp hrun
      rw [finish, if_pos hp]
      exact (exec_isPrefix_lscx hp hexec).trans hs

theorem step_brk {s t : State} (h : step s = .next t) (hs : getFlag .b s.p = true) : getFlag .b t.p = true := by
  by_cases hchange : getFlag .b t.p = getFlag .b s.p
  · exact hchange.trans hs
  · exact (modeChangesOnlyByTrapOrRti.2 s t h hchange).1

/-- Settles O21, part by part. -/
theorem stepKeepsSoundness : Obligations.StepKeepsSoundness := by
  unfold Obligations.StepKeepsSoundness
  rintro s t ⟨hmem, hcfg, hlscx, hbrk⟩ hstep
  obtain ⟨hcfg', -, hwf, -⟩ := step_keepsInputs hstep
  exact ⟨hwf hmem, hcfg' ▸ hcfg, step_lscx hstep hlscx, step_brk hstep hbrk⟩

/-! ## The inactive stack pointer -/

theorem Ordinary.sameInactivePointer {ipp : Bool} {s t : State} (h : Ordinary ipp s t) : SameInactivePointer s t :=
  ⟨h.user, h.kernel⟩

/-- Under kernelFirst the whole frame is pulled from the stack active when RTI starts. -/
theorem trapReturn_sameInactivePointer {s : State} (h : s.cfg.trapStackOrder = .kernelFirst) :
    SameInactivePointer s (trapReturn s) := by
  have hpull := (Ordinary.pull8 (ipp := false) s).trans (Ordinary.pull16 s.pull8.st)
  unfold trapReturn
  rw [h]
  exact ⟨hpull.user, hpull.kernel⟩

theorem exec_sameInactivePointer {i : Instr} {s t : State} (h : exec i s = .next t) (hbrk : i ≠ .brk)
    (hrti : i = .rti → s.cfg.trapStackOrder = .kernelFirst) : SameInactivePointer s t := by
  cases hi : isSpecial i with
  | false => exact (exec_ordinary hi h).sameInactivePointer
  | true =>
    cases i with
    | brk => exact absurd rfl hbrk
    | rti => cases h; exact trapReturn_sameInactivePointer (hrti rfl)
    | plp => cases h; exact s.pull8_inactive
    | nxt => cases h; exact ⟨fun _ => rfl, fun _ => rfl⟩
    | ent => cases h; exact s.push16_inactive s.ip
    | pli => cases h; exact s.pull16_inactive
    | ini => cases h; exact ⟨fun _ => rfl, fun _ => rfl⟩
    | _ => nomatch hi

@[simp] theorem State.wrReg_slot_spUser (r : RegName) (W : Width) (v : Word) (s : State) :
    (s.wrReg (.slot r) W v).spUser = s.spUser := (s.wrReg_slot_spec r W v).2.2.1

@[simp] theorem State.wrReg_slot_spKernel (r : RegName) (W : Width) (v : Word) (s : State) :
    (s.wrReg (.slot r) W v).spKernel = s.spKernel := (s.wrReg_slot_spec r W v).2.2.2

/-- A guarded meaning leaves the stack pointers if its next state does. -/
theorem sameStackPointers_of_guard {s t u : State} (h : guardExchange s t = .next u)
    (hu : t.spUser = s.spUser) (hk : t.spKernel = s.spKernel) : SameStackPointers s u := by
  obtain ⟨-, rfl⟩ := guardExchange_eq_next.mp h
  exact ⟨hu, hk⟩

theorem addWithCarry_sameStackPointers {o : Operand} {s t : State} (h : addWithCarry o s = .next t) :
    SameStackPointers s t := by
  obtain ⟨-, rfl⟩ := guardExchange_eq_next.mp h
  split <;> exact ⟨by simp [State.dataReg], by simp [State.dataReg]⟩

theorem subWithCarry_sameStackPointers {o : Operand} {s t : State} (h : subWithCarry o s = .next t) :
    SameStackPointers s t := by
  obtain ⟨-, rfl⟩ := guardExchange_eq_next.mp h
  split <;> exact ⟨by simp [State.dataReg], by simp [State.dataReg]⟩

/-- In ipp mode no operation writes a stack pointer: the register of LDX is a slot there (log 12). -/
theorem execIpp_sameStackPointers {o : IppOp} {s t : State} (h : execIpp o s = .next t) : SameStackPointers s t := by
  cases o with
  | adc => exact addWithCarry_sameStackPointers h
  | sbc => exact subWithCarry_sameStackPointers h
  | rmb n => cases h; exact ⟨by simp, by simp⟩
  | smb n => cases h; exact ⟨by simp, by simp⟩
  | ldx =>
    refine sameStackPointers_of_guard h ?_ ?_ <;>
      simp [loadInto, State.indexDataReg_ipp, State.dataReg]
  | lda | ldy => refine sameStackPointers_of_guard h ?_ ?_ <;> simp [loadInto, State.dataReg]
  | and | ora | eor => refine sameStackPointers_of_guard h ?_ ?_ <;> simp [State.dataReg]
  | sta | stx | sty | stz | cmp | cpx | cpy | bit | asl | lsr | rol | ror | inc | dec | tsb | trb =>
    exact sameStackPointers_of_guard h (by simp) (by simp)

/-- Settles O25. -/
theorem inactivePointerIsUntouched : Obligations.InactivePointerIsUntouched := by
  unfold Obligations.InactivePointerIsUntouched
  exact ⟨fun _ _ _ => exec_sameInactivePointer, fun _ _ _ => execIpp_sameStackPointers⟩

/-! ## The Forth pointers -/

@[simp] theorem nextWord_wp (s : State) : (nextWord s).wp = s.readWord ⟨s.ip, .full⟩ + 2#16 := rfl

/-- Settles O26: an ordinary instruction writes neither pointer, and of the others the Forth words alone do. -/
theorem forthPointersHaveFewWriters : Obligations.ForthPointersHaveFewWriters := by
  unfold Obligations.ForthPointersHaveFewWriters
  refine ⟨fun i s t h => ?_, fun o s t h => (execIpp_ordinary h).wp⟩
  cases hi : isSpecial i with
  | false =>
    have hord := exec_ordinary hi h
    exact ⟨fun hip => absurd (hord.ip rfl) hip, fun hwp => absurd hord.wp hwp⟩
  | true =>
    cases i with
    | brk => cases h; simp
    | rti => cases h; simp
    | plp => cases h; simp
    | nxt => simp
    | ent => simp
    | pli => cases h; simp
    | ini => cases h; simp
    | _ => nomatch hi

end Sys2Proof.Machine

/-! PROOF. What a step does with the bytes at PC: an instruction, a prefix, a slot outside the map; and when it takes an
interrupt instead (46_control.md R381 to R386, 41_prefix.md, 60_exceptions.md R410). -/

namespace Sys2Proof.Machine

open Sys2Proof.Safety

theorem step_of_decoded {s : State} {d : Decoded} {rest : List Byte} (hnone : acceptInterrupt s = none)
    (hdecode : decodeAt s = .ok (d, rest)) : step s = runDecoded d (3 - rest.length) s.opcode s := by
  simp [step, hnone, hdecode]

theorem step_of_entry {s t : State} (h : acceptInterrupt s = some t) : step s = .next t := by
  simp [step, h]

/-! ## An instruction -/

/-- The end of a step in one equation: a prefix keeps PrefixState and is not counted (46_control.md R381, 41_prefix.md
R169). -/
theorem finish_eq (i : Instr) (op : Byte) (t : State) :
    finish i op t = { t with
      ps := if isPrefix i then t.ps else PrefixState.clear
      counters := { t.counters with
        instructions := t.counters.instructions + (if isPrefix i then 0 else 1)
        cycles := t.counters.cycles + Config.cyclesOf op
        dummyCycles := t.counters.dummyCycles + Config.dummyCyclesOf op } } := by
  cases h : isPrefix i <;> simp [finish, h, finishPrefix, finishInstr, State.addOpcodeCycles, State.addCycles]

/-- Settles O11. -/
theorem stepRunsTheDecodedInstruction : Obligations.StepRunsTheDecodedInstruction := by
  unfold Obligations.StepRunsTheDecodedInstruction
  intro s
  refine ⟨rfl, rfl, fun i rest hnone hdecode => ?_⟩
  rw [step_of_decoded hnone hdecode]
  exact congrArg (andThen · (exec i _)) (funext (finish_eq i s.opcode))

/-! ## The length of what is decoded -/

/-- The bytes of a decoded instruction are as many as its opcode's length says (30_encoding.md R86, R88). -/
theorem length_of_decodeAt {s : State} {i : Instr} {rest : List Byte} (h : decodeAt s = .ok (.instr i, rest)) :
    3 - rest.length = opLength s.cfg s.ps s.opcode := by
  obtain ⟨op, tail, hwindow, hread⟩ := decode_eq_instr_iff.mp h
  obtain rfl : s.opcode = op := (List.cons.inj hwindow).1
  have hlength : tail.length + 1 = opLength s.cfg s.ps s.opcode := by
    obtain ⟨e, hop, hyields⟩ | ⟨hop, rfl, x, hslot, -⟩ := hread
    · exact (opLength_of_yields hop hyields).1
    · exact (opLength_of_ext hop hslot).symm
  have hthree : 3 = (tail ++ rest).length + 1 := congrArg List.length hwindow
  rw [List.length_append] at hthree
  omega

/-- The map holds no extension instruction: the reference configuration gives none an encoding. -/
theorem ne_ext_of_yields {ps : PrefixState} {op : Byte} {e : Entry} {i : Instr} {tail : List Byte}
    (hop : baseEntry op = some e) (h : e.Yields ps i tail) (x : ExtOp) : i ≠ x.instr := by
  rintro rfl
  have hwf := (encode_of_yields (cfg := Config.reference) hop h).2
  rw [wf_ext] at hwf
  exact absurd hwf (by simp [Config.extOpcode, Config.reference])

theorem isPrefix_isExt {i : Instr} (h : isPrefix i = true) : ∃ x : ExtOp, i = x.instr := by
  cases i with
  | osx => exact ⟨.osx, rfl⟩
  | ind => exact ⟨.ind, rfl⟩
  | siz => exact ⟨.siz, rfl⟩
  | oax => exact ⟨.oax, rfl⟩
  | oay => exact ⟨.oay, rfl⟩
  | osz => exact ⟨.osz, rfl⟩
  | ois => exact ⟨.ois, rfl⟩
  | isz => exact ⟨.isz, rfl⟩
  | _ => nomatch h

/-- A prefix is one byte long. -/
theorem length_of_decodeAt_isPrefix {s : State} {i : Instr} {rest : List Byte} (hp : isPrefix i = true)
    (h : decodeAt s = .ok (.instr i, rest)) : 3 - rest.length = 1 := by
  rw [length_of_decodeAt h]
  obtain ⟨x, rfl⟩ := isPrefix_isExt hp
  obtain ⟨op, tail, hwindow, ⟨e, hop, hyields⟩ | ⟨hop, -, x', hslot, -⟩⟩ := decode_eq_instr_iff.mp h
  · exact absurd rfl (ne_ext_of_yields hop hyields x)
  · obtain rfl : s.opcode = op := (List.cons.inj hwindow).1
    exact opLength_of_ext hop hslot

/-! ## A prefix -/

/-- PrefixState with the flags of another added; lscx, which no prefix sets, stays. -/
def addFlags (ps q : PrefixState) : PrefixState :=
  ⟨ps.osx || q.osx, ps.ind || q.ind, ps.siz || q.siz, ps.oax || q.oax, ps.oay || q.oay, ps.lscx⟩

theorem isPrefix_of_prefixFlags {cfg : Config} {i : Instr} {q : PrefixState} (h : prefixFlags cfg i = some q) :
    isPrefix i = true := by
  cases i <;> first
    | rfl
    | nomatch h

/-- A prefix adds the flags of its row (41_prefix.md R151, R161 to R168). -/
theorem exec_of_prefixFlags {s : State} {i : Instr} {q : PrefixState} (h : prefixFlags s.cfg i = some q) :
    exec i s = .next { s with ps := addFlags s.ps q } := by
  cases i with
  | ois =>
    cases h
    change execOis s = _
    unfold execOis
    split
    next hflags => simp [setPrefix, addFlags, PrefixState.clear, hflags]
    next hflags => simp [setPrefix, addFlags, PrefixState.clear, hflags]
  | osx => cases h; simp [exec, execOsx, setPrefix, addFlags, PrefixState.clear]
  | ind => cases h; simp [exec, execInd, setPrefix, addFlags, PrefixState.clear]
  | siz => cases h; simp [exec, execSiz, setPrefix, addFlags, PrefixState.clear]
  | oax => cases h; simp [exec, execOax, setPrefix, addFlags, PrefixState.clear]
  | oay => cases h; simp [exec, execOay, setPrefix, addFlags, PrefixState.clear]
  | osz => cases h; simp [exec, execOsz, setPrefix, addFlags, PrefixState.clear]
  | isz => cases h; simp [exec, execIsz, setPrefix, addFlags, PrefixState.clear]
  | _ => nomatch h

/-- Settles O13. -/
theorem prefixStepAddsItsFlags : Obligations.PrefixStepAddsItsFlags := by
  unfold Obligations.PrefixStepAddsItsFlags
  intro s i q hflags
  refine ⟨exec_of_prefixFlags hflags, fun hnone rest hdecode => ?_⟩
  have hp := isPrefix_of_prefixFlags hflags
  have hexec : exec i (s.fetched 1) = .next { s.fetched 1 with ps := addFlags s.ps q } :=
    exec_of_prefixFlags (s := s.fetched 1) hflags
  rw [step_of_decoded hnone hdecode, length_of_decodeAt_isPrefix hp hdecode, runDecoded, hexec, andThen, finish,
    if_pos hp]
  rfl

/-! ## A slot outside the map -/

theorem decodeAt_eq (s : State) :
    decodeAt s = decode s.cfg s.ps [s.opcode, s.readByte (s.pc + 1#16), s.readByte (s.pc + 2#16)] := rfl

theorem finishInstr_eq (op : Byte) (t : State) :
    finishInstr op t = { t with
      ps := PrefixState.clear
      counters := { t.counters with
        instructions := t.counters.instructions + 1
        cycles := t.counters.cycles + Config.cyclesOf op
        dummyCycles := t.counters.dummyCycles + Config.dummyCyclesOf op } } := rfl

/-- The opcode's fetch and the rest of the advance make UNIMPL_ADVANCE (46_control.md R385). -/
theorem unimplementedEntry_fetched (op : Byte) (s : State) :
    unimplementedEntry op (s.fetched 1) = { s with
      pc := s.pc + s.cfg.unimplAdvance.toWord
      ps := PrefixState.clear
      counters := { s.counters with
        progReads := s.counters.progReads + 1
        cycles := s.counters.cycles + Config.cyclesOf op
        dummyCycles := s.counters.dummyCycles + Config.dummyCyclesOf op } } := by
  have hpc : s.pc + 1#16 + s.cfg.unimplAdvance.toWord - 1#16 = s.pc + s.cfg.unimplAdvance.toWord := by bv_omega
  simp [unimplementedEntry, State.fetched, State.addOpcodeCycles, State.addCycles, hpc]

/-- Settles O14: outside the map the kind of the slot decides what is decoded. -/
theorem slotsOutsideTheMapStep : Obligations.SlotsOutsideTheMapStep := by
  unfold Obligations.SlotsOutsideTheMapStep
  intro s hnone hbase
  refine ⟨fun hslot => ?unimplemented, fun hslot => ?refused, fun o hslot t hexec => ?ipp⟩
  case unimplemented =>
    have hdecode : decodeAt s = .ok (.unimplemented, [s.readByte (s.pc + 1#16), s.readByte (s.pc + 2#16)]) := by
      simp [decodeAt_eq, decode, hbase, hslot]
    rw [step_of_decoded hnone hdecode]
    exact congrArg Host.Outcome.next (unimplementedEntry_fetched s.opcode s)
  case refused =>
    have hdecode : decodeAt s = .error (.unassignedSlot s.opcode) := by
      simp [decodeAt_eq, decode, hbase, hslot]
    simp [step, hnone, hdecode, refusalOf]
  case ipp =>
    have hdecode : decodeAt s = .ok (.ipp o, [s.readByte (s.pc + 2#16)]) := by
      simp [decodeAt_eq, decode, hbase, hslot]
    rw [step_of_decoded hnone hdecode]
    change andThen (finishInstr s.opcode) (execIpp o (s.fetched 2)) = _
    rw [hexec, andThen, finishInstr_eq]

/-! ## Interrupts -/

/-- Settles O15: each clause is a case of what is accepted (`acceptInterrupt_eq_some`). -/
theorem interruptAcceptance : Obligations.InterruptAcceptance := by
  unfold Obligations.InterruptAcceptance
  intro s
  refine ⟨fun hany => by simp [acceptInterrupt, hany], fun hany hnmi => ?nmi, fun hany hnmi hirq hi => ?irq,
    fun hnmi hirq => ?neither⟩
  case nmi =>
    have haccept := acceptInterrupt_eq_some.mpr ⟨PrefixState.any_eq_false_iff.mp hany, .inl ⟨hnmi, rfl⟩⟩
    rw [step_of_entry haccept]
    rfl
  case irq =>
    have haccept := acceptInterrupt_eq_some.mpr ⟨PrefixState.any_eq_false_iff.mp hany, .inr ⟨hnmi, hirq, hi, rfl⟩⟩
    rw [step_of_entry haccept]
    rfl
  case neither =>
    obtain hirq | hi := hirq
    · simp [acceptInterrupt, hnmi, hirq]
    · simp [acceptInterrupt, hnmi, hi]

end Sys2Proof.Machine

/-! PROOF. The host's accessors (70_reset_and_hazards.md R472): each writes one element, slots and byte ranges read back
as written. -/

namespace Sys2Proof.Machine

open Sys2Proof.Safety

/-- A register slot reads back as written, and every other one as it was. -/
theorem hostSlot_hostSetSlot (s : State) (r q : RegName) (k j : Fin 3) (v : Word) :
    hostSlot q j (hostSetSlot r k v s) = if q = r ∧ j = k then v else hostSlot q j s := by
  have hstack : ∀ w, (s.setStack r w).stack q = if q = r then w else s.stack q := by
    intro w
    cases r <;> cases q <;> rfl
  by_cases hqr : q = r
  · subst hqr
    fin_cases k <;> fin_cases j <;> simp [hostSlot, hostSetSlot, hstack]
  · fin_cases k <;> simp [hostSlot, hostSetSlot, hstack, hqr]

theorem hostSetSlot_frame (s : State) (r : RegName) (k : Fin 3) (v : Word) :
    hostSetSlot r k v s =
      { s with a := (hostSetSlot r k v s).a, x := (hostSetSlot r k v s).x, y := (hostSetSlot r k v s).y } := by
  fin_cases k <;> cases r <;> rfl

/-- The distance to an address grows by one where the base moves down by one, unless the address is the base. -/
theorem toNat_sub_of_ne {a b : Word} (h : b ≠ a) : (b - a).toNat = (b - (a + 1#16)).toNat + 1 := by bv_omega

/-- A run of at most 65536 bytes does not overlap itself: each address of the run reads as its byte, every other one as
before (log 22). -/
theorem read_storeBytes (bytes : List Byte) : ∀ (a b : Word) (m : Memory), m.wf = true → bytes.length ≤ 65536 →
    (storeBytes a bytes m).read b.toNat = (bytes[(b - a).toNat]?).getD (m.read b.toNat) := by
  induction bytes with
  | nil => intro a b m _ _; rfl
  | cons v bytes ih =>
    intro a b m hm hlength
    rw [List.length_cons] at hlength
    rw [storeBytes, ih _ _ _ (Memory.wf_write m a.toNat v hm a.isLt) (by omega)]
    by_cases hba : b = a
    · subst hba
      have hnone : bytes[65535]? = none := List.getElem?_eq_none (by omega)
      simp [hnone, Memory.read_write_same m _ v hm]
    · have hne : b.toNat ≠ a.toNat := fun h => hba (BitVec.eq_of_toNat_eq h)
      rw [toNat_sub_of_ne hba, List.getElem?_cons_succ, Memory.read_write_of_ne m _ v _ hne]

@[simp] theorem length_hostSave (s : State) (n : Nat) : ∀ a : Word, (hostSave a n s).length = n := by
  induction n with
  | zero => intro a; rfl
  | succ n ih => intro a; simp [hostSave, ih]

theorem getElem?_hostSave (s : State) (n : Nat) : ∀ (a : Word) (k : Nat), k < n →
    (hostSave a n s)[k]? = some (s.readByte (a + BitVec.ofNat 16 k)) := by
  induction n with
  | zero => intro a k hk; omega
  | succ n ih =>
    intro a k hk
    cases k with
    | zero => simp [hostSave]
    | succ k =>
      have haddr : a + 1#16 + BitVec.ofNat 16 k = a + BitVec.ofNat 16 (k + 1) := by
        rw [Nat.add_comm k 1, BitVec.ofNat_add, BitVec.add_assoc]
      rw [hostSave, List.getElem?_cons_succ, ih _ _ (by omega), haddr]

/-- Settles O22: the clause on steps by `step_keepsInputs`, the accessors one by one. -/
theorem hostWritesOneElementStepsKeepInputs : Obligations.HostWritesOneElementStepsKeepInputs := by
  unfold Obligations.HostWritesOneElementStepsKeepInputs
  refine ⟨fun s t hstep => ?steps, fun s => ?fields, fun s r q k j v => ?slots,
    fun s a b v bytes n hmem => ?memory⟩
  case steps =>
    obtain ⟨hcfg, hirq, -, hnmi⟩ := step_keepsInputs hstep
    exact ⟨hcfg, hirq, hnmi.resolve_left⟩
  case fields =>
    exact ⟨rfl, rfl, fun _ => rfl, fun _ => ⟨rfl, rfl, rfl, rfl, rfl⟩, fun _ => rfl, fun _ => rfl, fun _ => rfl,
      fun _ => rfl⟩
  case slots => exact ⟨hostSlot_hostSetSlot s r q k j v, hostSetSlot_frame s r k v, rfl, rfl, rfl⟩
  case memory =>
    refine ⟨Memory.wf_write _ _ _ hmem a.isLt, storeBytes_wf bytes a s.mem hmem, rfl, ?byte, rfl,
      read_storeBytes bytes a b s.mem hmem, rfl, length_hostSave s n a, getElem?_hostSave s n a⟩
    split
    next hba => exact hba ▸ s.readByte_writeByte_same b v hmem
    next hba => exact s.readByte_writeByte_of_ne a b v hba

end Sys2Proof.Machine

/-! PROOF. What an instruction adds to the counters (10_state.md R48): the shared operations count their accesses, and an
instruction's row of `dataReads` and `dataWrites` is what its meaning counts. -/

namespace Sys2Proof.Machine

open Sys2Proof.Safety

/-! ## The shared operations -/

@[simp] theorem State.consume_counters (o : Operand) (W : Width) (s : State) :
    (s.consume o W).counters = { s.counters with dataReads := s.counters.dataReads + operandReads s o W } := by
  cases o <;> simp [State.consume, operandReads]

@[simp] theorem State.store_counters (m : MemMode) (W : Width) (v : Word) (s : State) :
    (s.store m W v).counters =
      { s.counters with
        dataReads := s.counters.dataReads + s.pointerReads m
        dataWrites := s.counters.dataWrites + W.bytes } := by
  simp [State.store, State.writeMem_counters]

@[simp] theorem State.modify_counters (m : MemMode) (W : Width) (v : Word) (s : State) :
    (s.modify m W v).counters =
      { s.counters with
        dataReads := s.counters.dataReads + (s.pointerReads m + W.bytes)
        dataWrites := s.counters.dataWrites + W.bytes } := by
  simp [State.modify, State.writeMem_counters]

@[simp] theorem State.pushW_counters (W : Width) (v : Word) (s : State) :
    (s.pushW W v).counters = { s.counters with dataWrites := s.counters.dataWrites + W.bytes } := by
  cases W <;> simp [State.pushW, Width.bytes]

@[simp] theorem State.pullW_counters (W : Width) (s : State) :
    (s.pullW W).st.counters = { s.counters with dataReads := s.counters.dataReads + W.bytes } := by
  cases W <;> simp [State.pullW, Width.bytes]

@[simp] theorem nextWord_counters (s : State) :
    (nextWord s).counters = { s.counters with dataReads := s.counters.dataReads + 4 } := rfl

/-- Pointers are read whatever osx and lscx are. -/
@[simp] theorem State.pointerReads_markLscx (o : Operand) (s : State) (m : MemMode) :
    (s.markLscx o).pointerReads m = s.pointerReads m := by
  unfold State.markLscx
  split <;> rfl

@[simp] theorem operandReads_markLscx (o' o : Operand) (s : State) (W : Width) :
    operandReads (s.markLscx o') o W = operandReads s o W := by
  cases o <;> simp [operandReads]

@[simp] theorem State.width_markLscx (o : Operand) (s : State) : (s.markLscx o).width = s.width := by
  unfold State.markLscx
  split <;> rfl

/-! ## Data operations -/

theorem Counted.refl (s : State) : Counted 0 0 s s := by simp [Counted]

/-- A guarded meaning counts what its next state counts. -/
theorem counted_of_guard {r w : Nat} {s t u : State} (h : guardExchange s t = .next u) (ht : Counted r w s t) :
    Counted r w s u := by
  obtain ⟨-, rfl⟩ := guardExchange_eq_next.mp h
  exact ht

theorem operationReads_of_takesImmediate {op : IppOp} (h : takesImmediate op = true) (o : Operand) (s : State) :
    operationReads op o s = operandReads s o s.width ∧ operationWrites op s = 0 := by
  cases op <;> first
    | (cases o <;> exact ⟨rfl, rfl⟩)
    | nomatch h

theorem addWithCarry_counted {o : Operand} {s t : State} (h : addWithCarry o s = .next t) :
    Counted (operandReads s o s.width) 0 s t := by
  obtain ⟨-, rfl⟩ := guardExchange_eq_next.mp h
  split <;> simp [Counted]

theorem subWithCarry_counted {o : Operand} {s t : State} (h : subWithCarry o s = .next t) :
    Counted (operandReads s o s.width) 0 s t := by
  obtain ⟨-, rfl⟩ := guardExchange_eq_next.mp h
  split <;> simp [Counted]

theorem dataMeaning_counted_of_takesImmediate {op : IppOp} {o : Operand} {s t : State}
    (hop : takesImmediate op = true) (h : dataMeaning op o s = .next t) :
    Counted (operandReads s o s.width) 0 s t := by
  cases op with
  | adc => exact addWithCarry_counted h
  | sbc => exact subWithCarry_counted h
  | bit =>
    cases o with
    | imm v => exact counted_of_guard h (by simp [Counted, operandReads])
    | mem m => exact counted_of_guard h (by simp [Counted])
  | lda | ldx | ldy => exact counted_of_guard h (by simp [Counted, loadInto])
  | and | ora | eor | cmp | cpx | cpy => exact counted_of_guard h (by simp [Counted])
  | _ => nomatch hop

theorem dataMeaning_counted {op : IppOp} {o : Operand} {s t : State}
    (ho : takesImmediate op = true ∨ ∃ m, o = .mem m) (h : dataMeaning op o s = .next t) :
    Counted (operationReads op o s) (operationWrites op s) s t := by
  by_cases hop : takesImmediate op = true
  · obtain ⟨hreads, hwrites⟩ := operationReads_of_takesImmediate hop o s
    rw [hreads, hwrites]
    exact dataMeaning_counted_of_takesImmediate hop h
  · obtain ⟨m, rfl⟩ := ho.resolve_left hop
    cases op with
    | sta | stx | sty | stz => exact counted_of_guard h (by simp [Counted, operationReads, operationWrites])
    | asl | lsr | rol | ror | inc | dec | tsb | trb =>
      exact counted_of_guard h (by simp [Counted, operationReads, operationWrites, isShift])
    | rmb n | smb n => cases h; simp [Counted, operationReads, operationWrites, Width.bytes]
    | _ => exact absurd rfl hop

/-! ## Every instruction -/

theorem dataReads_of_dataForm {i : Instr} {op : IppOp} {o : Operand} (h : dataForm i = some (op, o)) (s : State) :
    dataReads i s = operationReads op o s ∧ dataWrites i s = operationWrites op s := by
  simp [dataReads, dataWrites, h]

/-- An instruction that makes no data access. -/
def NoAccess (i : Instr) : Prop := ∀ s, dataReads i s = 0 ∧ dataWrites i s = 0

theorem counted_of_noAccess {i : Instr} {s t : State} (h : NoAccess i) (ht : t.counters = s.counters) :
    Counted (dataReads i s) (dataWrites i s) s t := by
  obtain ⟨hreads, hwrites⟩ := h s
  simp [Counted, hreads, hwrites, ht]

theorem noAccess_of_registerForm {i : Instr} {op : IppOp} {r : RegName} (h : registerForm i = some (op, r)) :
    NoAccess i := by
  cases i <;> first
    | exact fun _ => ⟨rfl, rfl⟩
    | nomatch h

theorem noAccess_of_relForm {i : Instr} {c : Option (Flag × Bool)} {r : Byte} (h : relForm i = some (c, r)) :
    NoAccess i := by
  cases i <;> first
    | exact fun _ => ⟨rfl, rfl⟩
    | nomatch h

theorem noAccess_of_rel16Form {i : Instr} {c : Option (Flag × Bool)} {r : Word} (h : rel16Form i = some (c, r)) :
    NoAccess i := by
  cases i <;> first
    | exact fun _ => ⟨rfl, rfl⟩
    | nomatch h

theorem noAccess_of_transferForm {i : Instr} {src dst : RegName} (h : transferForm i = some (src, dst)) :
    NoAccess i := by
  cases i <;> first
    | exact fun _ => ⟨rfl, rfl⟩
    | nomatch h

theorem noAccess_of_flagForm {i : Instr} {f : Flag} {v : Bool} (h : flagForm i = some (f, v)) : NoAccess i := by
  cases i <;> first
    | exact fun _ => ⟨rfl, rfl⟩
    | nomatch h

theorem noAccess_of_isPrefix {i : Instr} (h : isPrefix i = true) : NoAccess i := by
  cases i <;> first
    | exact fun _ => ⟨rfl, rfl⟩
    | nomatch h

theorem accesses_of_pushForm {i : Instr} {r : RegName} (h : pushForm i = some r) (s : State) :
    dataReads i s = 0 ∧ dataWrites i s = s.width.bytes := by
  cases i <;> first
    | exact ⟨rfl, rfl⟩
    | nomatch h

theorem accesses_of_pullForm {i : Instr} {r : RegName} (h : pullForm i = some r) (s : State) :
    dataReads i s = s.width.bytes ∧ dataWrites i s = 0 := by
  cases i <;> first
    | exact ⟨rfl, rfl⟩
    | nomatch h

theorem accesses_of_bitBranchForm {i : Instr} {n : Fin 8} {b : Bool} {z r : Byte}
    (h : bitBranchForm i = some (n, b, z, r)) (s : State) :
    dataReads i s = s.pointerReads (.zp z) + 1 ∧ dataWrites i s = 0 := by
  cases i <;> first
    | (cases h; exact ⟨rfl, rfl⟩)
    | nomatch h

/-- A register form changes no counter. -/
theorem exec_registerForm_counters {i : Instr} {op : IppOp} {r : RegName} {s t : State}
    (hf : registerForm i = some (op, r)) (h : exec i s = .next t) : t.counters = s.counters := by
  by_cases hl : i = .lsrAcc → (s.ps.ind && s.ps.siz) = false
  · rw [exec_of_registerForm hf s hl] at h
    obtain ⟨-, rfl⟩ := guardExchange_eq_next.mp h
    simp
  · obtain ⟨rfl, hl'⟩ : i = .lsrAcc ∧ (s.ps.ind && s.ps.siz) = true := by simpa using hl
    have h : execLsrAcc s = .next t := h
    rw [execLsrAcc, if_pos hl'] at h
    obtain ⟨-, rfl⟩ := guardExchange_eq_next.mp h
    simp

/-- An instruction counts the data accesses of its row. -/
theorem exec_counted (i : Instr) :
    ∀ {s t : State}, exec i s = .next t → Counted (dataReads i s) (dataWrites i s) s t := by
  induction i using form_cases with
  | data i op o hf =>
    intro s t h
    obtain ⟨hreads, hwrites⟩ := dataReads_of_dataForm hf s
    rw [hreads, hwrites]
    rw [exec_of_dataForm hf] at h
    exact dataMeaning_counted (operand_of_dataForm hf) h
  | register i op r hf =>
    intro s t h
    exact counted_of_noAccess (noAccess_of_registerForm hf) (exec_registerForm_counters hf h)
  | rel i c r hf =>
    intro s t h
    rw [exec_of_relForm hf, branchIf_eq] at h
    cases h
    exact counted_of_noAccess (noAccess_of_relForm hf) rfl
  | rel16 i c r hf =>
    intro s t h
    rw [exec_of_rel16Form hf, branchIf_eq] at h
    cases h
    exact counted_of_noAccess (noAccess_of_rel16Form hf) rfl
  | bitBranch i n b z r hf =>
    intro s t h
    rw [exec_of_bitBranchForm hf] at h
    obtain ⟨hreads, hwrites⟩ := accesses_of_bitBranchForm hf s
    cases h
    split <;> simp [Counted, hreads, hwrites, operandReads, Width.bytes]
  | transfer i src dst hf =>
    intro s t h
    rw [exec_of_transferForm hf] at h
    obtain ⟨-, rfl⟩ := guardExchange_eq_next.mp h
    exact counted_of_noAccess (noAccess_of_transferForm hf) (by simp)
  | push i r hf =>
    intro s t h
    rw [exec_of_pushForm hf] at h
    obtain ⟨hreads, hwrites⟩ := accesses_of_pushForm hf s
    exact counted_of_guard h (by simp [Counted, hreads, hwrites])
  | pull i r hf =>
    intro s t h
    rw [exec_of_pullForm hf] at h
    obtain ⟨hreads, hwrites⟩ := accesses_of_pullForm hf s
    exact counted_of_guard h (by simp [Counted, hreads, hwrites])
  | flag i f v hf =>
    intro s t h
    rw [exec_of_flagForm hf] at h
    cases h
    exact counted_of_noAccess (noAccess_of_flagForm hf) rfl
  | isPre i hp =>
    intro s t h
    obtain ⟨ps, hps⟩ := exec_of_isPrefix hp s
    rw [hps] at h
    cases h
    exact counted_of_noAccess (noAccess_of_isPrefix hp) rfl
  | asr | txs | tsx =>
    intro s t h
    exact counted_of_guard h (counted_of_noAccess (fun _ => ⟨rfl, rfl⟩) (by simp))
  | dup | swp | rot =>
    intro s t h
    exact counted_of_guard h (counted_of_noAccess (fun _ => ⟨rfl, rfl⟩) (by simp))
  | php => intro s t h; cases h; exact s.push8_counters _
  | plp => intro s t h; cases h; exact s.pull8_counters
  | jsr a =>
    intro s t h
    cases h
    exact State.push16_counters (s.pc - 1#16) (s.countReads s.indReads)
  | jmpAbs a => intro s t h; cases h; rfl
  | jmpAbsI a => intro s t h; cases h; rfl
  | jmpAbsXI a => intro s t h; exact counted_of_guard h rfl
  | rts => intro s t h; cases h; exact s.pull16_counters
  | brk =>
    intro s t h
    rw [exec_brk] at h
    cases h
    exact trapEntry_counters s.cfg.vecIrq (brkReturn s)
  | rti => intro s t h; cases h; exact trapReturn_counters s
  | nop => intro s t h; cases h; exact Counted.refl s
  | nxt => intro s t h; cases h; rfl
  | ent =>
    intro s t h
    cases h
    simp [Counted, show dataReads .ent s = 4 from rfl, show dataWrites .ent s = 2 from rfl]
  | phi => intro s t h; cases h; exact s.push16_counters _
  | pli => intro s t h; cases h; exact s.pull16_counters
  | ini => intro s t h; cases h; exact Counted.refl s

/-- What an instruction accesses does not depend on PC. -/
theorem accesses_fetched (i : Instr) (n : Nat) (s : State) :
    dataReads i (s.fetched n) = dataReads i s ∧ dataWrites i (s.fetched n) = dataWrites i s := ⟨rfl, rfl⟩

/-- Settles O27. -/
theorem countersFollowTheAccesses : Obligations.CountersFollowTheAccesses := by
  unfold Obligations.CountersFollowTheAccesses
  intro s t i rest hnone hdecode hstep
  rw [step_of_decoded hnone hdecode, length_of_decodeAt hdecode] at hstep
  obtain ⟨u, hexec, rfl⟩ := andThen_eq_next.mp hstep
  have hcounted : u.counters = _ := exec_counted i hexec
  obtain ⟨hreads, hwrites⟩ := accesses_fetched i (opLength s.cfg s.ps s.opcode) s
  simp [finish_eq, hcounted, hreads, hwrites]

end Sys2Proof.Machine

/-! PROOF. Memory writes: a byte, and a word low byte first at the two addresses of its effective address (20_memory.md
R62 to R69). -/

namespace Sys2Proof.Machine

open Sys2Proof.Safety

/-- Settles O1. -/
theorem byteWriteStoresTheByte : Obligations.ByteWriteStoresTheByte := by
  unfold Obligations.ByteWriteStoresTheByte
  intro s a v hmem
  refine ⟨s.readByte_writeByte_same a v hmem, fun b hb => ?_, rfl, s.writeByte_wf a v hmem, rfl⟩
  exact s.readByte_writeByte_of_ne a b v (by simpa using hb)

/-- The second byte of a full-class address is one further modulo 2^16, of a page-class one modulo 256 in the page. -/
theorem EA.nextAddr_toNat (ea : EA) :
    (ea.wrap = .full → ea.nextAddr.toNat = (ea.addr.toNat + 1) % 65536) ∧
    (ea.wrap = .page → ea.nextAddr.toNat = ea.addr.toNat / 256 * 256 + (ea.addr.toNat + 1) % 256) := by
  constructor <;> intro hwrap
  · simp [EA.nextAddr, hwrap]
  · simp [EA.nextAddr, hwrap, pageAdd_toNat]

/-- Settles O2. -/
theorem wordWriteIsLittleEndian : Obligations.WordWriteIsLittleEndian := by
  unfold Obligations.WordWriteIsLittleEndian
  intro s ea v hmem
  have hword : (s.writeMem ea .word v).readMem ea .word = v := State.readMem_writeMem ea .word v s hmem
  refine ⟨?low, ?high, hword, State.writeMem_sameBut ea .word v s, State.writeMem_counters ea .word v s,
    ea.nextAddr_toNat.1, ea.nextAddr_toNat.2⟩
  case low => simpa [State.readMem, State.readWord] using congrArg loByte hword
  case high => simpa [State.readMem, State.readWord] using congrArg hiByte hword

end Sys2Proof.Machine

/-! PROOF. The binary and decimal adders against exact arithmetic (43_alu.md section 2). -/

namespace Sys2Proof.Machine

open Sys2Proof.Safety

/-! ## Binary -/

/-- The signed value of W bits: the unsigned one, less 2^W from the sign bit on. -/
theorem signedW_cases {W : Width} {v : Word} (h : v.toNat < 2 ^ W.bits) :
    (v.toNat < 2 ^ (W.bits - 1) ∧ signedW W v = v.toNat) ∨
      (2 ^ (W.bits - 1) ≤ v.toNat ∧ signedW W v = (v.toNat : Int) - 2 ^ W.bits) := by
  cases W with
  | byte =>
    change v.toNat < 256 at h
    have hlow : (loByte v).toNat = v.toNat := by rw [loByte_toNat, Nat.mod_eq_of_lt h]
    simp only [signedW, BitVec.toInt_eq_toNat_cond, hlow, Width.bits]
    split <;> omega
  | word =>
    simp only [signedW, BitVec.toInt_eq_toNat_cond, Width.bits]
    split <;> omega

/-- The sign bit of a value below 2^W. -/
theorem msbW_of_lt {W : Width} {v : Word} (h : v.toNat < 2 ^ W.bits) :
    msbW W v = decide (2 ^ (W.bits - 1) ≤ v.toNat) := by
  rw [msbW_eq, decide_eq_decide]
  cases W <;> simp only [Width.bits] at h ⊢ <;> omega

/-- The sign bit of bitwise operations. -/
theorem msbW_not (W : Width) (v : Word) : msbW W (~~~v) = !msbW W v := by
  cases W <;> simp [msbW, Width.bits]

theorem msbW_and (W : Width) (v w : Word) : msbW W (v &&& w) = (msbW W v && msbW W w) := by simp [msbW]

theorem msbW_xor (W : Width) (v w : Word) : msbW W (v ^^^ w) = (msbW W v ^^ msbW W w) := by simp [msbW]

theorem addBin_r_toNat (W : Width) (a m : Word) (c : Bool) :
    (addBin W a m c).r.toNat = (a.toNat + m.toNat + c.toNat) % 2 ^ W.bits := by
  simp only [addBin, maskW_toNat, BitVec.toNat_ofNat]
  cases W <;> simp only [Width.bits] <;> omega

/-- V is set exactly where the operands have one sign and the result the other. -/
theorem addBin_v_iff (W : Width) (a m : Word) (c : Bool) :
    (addBin W a m c).v = true ↔ msbW W a = msbW W m ∧ msbW W (addBin W a m c).r ≠ msbW W a := by
  have hv : (addBin W a m c).v = msbW W (~~~(a ^^^ m) &&& (a ^^^ (addBin W a m c).r)) := rfl
  rw [hv, msbW_and, msbW_not, msbW_xor, msbW_xor]
  cases msbW W a <;> cases msbW W m <;> cases msbW W (addBin W a m c).r <;> simp

/-- V is signed overflow. -/
theorem addBin_overflow {W : Width} {a m : Word} (c : Bool) (ha : a.toNat < 2 ^ W.bits)
    (hm : m.toNat < 2 ^ W.bits) :
    (addBin W a m c).v = true ↔ ¬ fitsSigned W (signedW W a + signedW W m + (c.toNat : Int)) := by
  have hr : (addBin W a m c).r.toNat < 2 ^ W.bits := by
    rw [addBin_r_toNat]
    exact Nat.mod_lt _ (Nat.two_pow_pos _)
  have hc : c.toNat ≤ 1 := c.toNat_le
  rw [addBin_v_iff, msbW_of_lt ha, msbW_of_lt hm, msbW_of_lt hr, addBin_r_toNat, decide_eq_decide, ne_eq,
    decide_eq_decide, fitsSigned]
  obtain ⟨ha', hsa⟩ | ⟨ha', hsa⟩ := signedW_cases ha <;> obtain ⟨hm', hsm⟩ | ⟨hm', hsm⟩ := signedW_cases hm <;>
    rw [hsa, hsm] <;> cases W <;> simp only [Width.bits] at * <;> omega

/-- The complement of an operand within W bits. -/
theorem maskW_not_toNat {W : Width} {m : Word} (h : m.toNat < 2 ^ W.bits) :
    (maskW W (~~~m)).toNat = 2 ^ W.bits - 1 - m.toNat := by
  rw [maskW_toNat, BitVec.toNat_not]
  cases W <;> simp only [Width.bits] at * <;> omega

/-- The complement stands for minus the operand less one. -/
theorem signedW_maskW_not {W : Width} {m : Word} (h : m.toNat < 2 ^ W.bits) :
    signedW W (maskW W (~~~m)) = -signedW W m - 1 := by
  have hnot := maskW_not_toNat h
  obtain ⟨hlow, hsigned⟩ | ⟨hlow, hsigned⟩ := signedW_cases h <;>
    obtain ⟨hlow', hsigned'⟩ | ⟨hlow', hsigned'⟩ := signedW_cases (maskW_toNat_lt W (~~~m)) <;>
    rw [hsigned, hsigned', hnot] <;> rw [hnot] at hlow' <;> cases W <;> simp only [Width.bits] at * <;> omega

/-- Settles O4: the subtractor is the adder at the complement of its operand. -/
theorem binaryAdderIsExact : Obligations.BinaryAdderIsExact := by
  unfold Obligations.BinaryAdderIsExact
  intro W a m c ha hm
  have hnot := maskW_not_toNat hm
  have hc : c.toNat ≤ 1 := c.toNat_le
  refine ⟨addBin_r_toNat W a m c, rfl, addBin_overflow c ha hm, ?difference, ?notBorrow, ?overflow⟩
  case difference =>
    rw [subBin, addBin_r_toNat, hnot]
    cases W <;> simp only [Width.bits] at * <;> omega
  case notBorrow =>
    simp only [subBin, addBin, hnot, decide_eq_decide]
    cases W <;> simp only [Width.bits] at * <;> omega
  case overflow =>
    rw [subBin, addBin_overflow c ha (maskW_toNat_lt W _), signedW_maskW_not hm]
    have hsum : signedW W a + (-signedW W m - 1) + (c.toNat : Int) = signedW W a - signedW W m - 1 + c.toNat := by
      omega
    rw [hsum]

/-! ## Decimal -/

theorem getLsbD_seven (b : Byte) : b.getLsbD 7 = decide (128 ≤ b.toNat) := by
  have h : b.getLsbD 7 = b.msb := by simp [BitVec.msb_eq_getLsbD_last]
  rw [h, BitVec.msb_eq_decide]

/-- The low digit's sum, the high digit's sum with the low digit's carry, and the byte they make unadjusted
(43_alu.md R222). -/
def decLow (a m : Byte) (c : Bool) : Nat := a.toNat % 16 + m.toNat % 16 + c.toNat

def decHigh (a m : Byte) (c : Bool) : Nat := a.toNat / 16 + m.toNat / 16 + (decide (9 < decLow a m c)).toNat

def decSum (a m : Byte) (c : Bool) : Nat := decHigh a m c % 16 * 16 + decLow a m c % 16

/-- The difference as a byte, unadjusted (43_alu.md R223). -/
def decDifference (a m : Byte) (c : Bool) : Nat := (a.toNat + (255 - m.toNat) + c.toNat) % 256

theorem decSum_lt (a m : Byte) (c : Bool) : decSum a m c < 256 := by
  unfold decSum
  omega

theorem decDifference_lt (a m : Byte) (c : Bool) : decDifference a m c < 256 := Nat.mod_lt _ (by decide)

theorem decHigh_eq (a m : Byte) (c : Bool) :
    decHigh a m c = a.toNat / 16 + m.toNat / 16 + (if 10 ≤ decLow a m c then 1 else 0) := by
  have hcarry : decide (9 < decLow a m c) = decide (10 ≤ decLow a m c) := rfl
  rw [decHigh, hcarry]
  split
  next h => rw [decide_eq_true h]; rfl
  next h => rw [decide_eq_false h]; rfl

/-- A digit adjusted by 6 where it left the decimal range. -/
theorem adjust_digit (n : Nat) :
    (n % 16 + (if decide (9 < n) then 6 else 0)) % 16 = (n + (if 10 ≤ n then 6 else 0)) % 16 := by
  have hcarry : decide (9 < n) = decide (10 ≤ n) := rfl
  rw [Nat.mod_add_mod, hcarry]
  by_cases h : 10 ≤ n <;> simp [h]

/-- For the sum of two decimal digits and a carry that is the sum modulo 10. -/
theorem adjusted_digit_of_le {n : Nat} (h : n ≤ 19) :
    (n + (if 10 ≤ n then 6 else 0)) % 16 = if 10 ≤ n then n - 10 else n := by
  split <;> omega

/-- The digits of a byte built from two. -/
theorem digits_ofNat {h l : Nat} (hh : h < 16) (hl : l < 16) :
    (BitVec.ofNat 8 (h * 16 + l)).toNat / 16 = h ∧ (BitVec.ofNat 8 (h * 16 + l)).toNat % 16 = l := by
  rw [BitVec.toNat_ofNat]
  omega

theorem addDec_digits (src : DecNzSource) (a m : Byte) (c : Bool) :
    (addDec src a m c).r.toNat / 16 = (decHigh a m c + (if 10 ≤ decHigh a m c then 6 else 0)) % 16 ∧
    (addDec src a m c).r.toNat % 16 = (decLow a m c + (if 10 ≤ decLow a m c then 6 else 0)) % 16 := by
  rw [← adjust_digit, ← adjust_digit]
  exact digits_ofNat (Nat.mod_lt _ (by decide)) (Nat.mod_lt _ (by decide))

theorem addDec_c (src : DecNzSource) (a m : Byte) (c : Bool) :
    (addDec src a m c).c = decide (10 ≤ decHigh a m c) := rfl

/-- V is set where the operands have one sign and the unadjusted output the other. -/
theorem addDec_v (src : DecNzSource) (a m : Byte) (c : Bool) :
    (addDec src a m c).v =
      decide (decide (128 ≤ a.toNat) = decide (128 ≤ m.toNat) ∧
        decide (128 ≤ decSum a m c) ≠ decide (128 ≤ a.toNat)) := by
  have hv : (addDec src a m c).v = (~~~(a ^^^ m) &&& (a ^^^ BitVec.ofNat 8 (decSum a m c))).getLsbD 7 := rfl
  have hu : (BitVec.ofNat 8 (decSum a m c)).toNat = decSum a m c := Nat.mod_eq_of_lt (decSum_lt a m c)
  rw [hv, BitVec.getLsbD_and, BitVec.getLsbD_not, BitVec.getLsbD_xor, BitVec.getLsbD_xor, getLsbD_seven, getLsbD_seven,
    getLsbD_seven, hu]
  cases decide (128 ≤ a.toNat) <;> cases decide (128 ≤ m.toNat) <;> cases decide (128 ≤ decSum a m c) <;> rfl

/-- The number that N and Z are taken from (DEC_NZ_SOURCE). -/
def decSource (src : DecNzSource) (unadjusted adjusted : Nat) : Nat :=
  match src with
  | .unadjusted => unadjusted
  | .adjusted => adjusted

theorem decFlagSource_toNat (src : DecNzSource) {u : Nat} (hu : u < 256) (r : Byte) :
    (decFlagSource src (BitVec.ofNat 8 u) r).toNat = decSource src u r.toNat := by
  cases src with
  | unadjusted => simpa [decFlagSource, decSource] using hu
  | adjusted => rfl

/-- N and Z of a decimal result. -/
theorem decFlags_of_source {src : DecNzSource} {d : DecSum} {u : Nat} (hu : u < 256)
    (hn : d.n = (decFlagSource src (BitVec.ofNat 8 u) d.r).getLsbD 7)
    (hz : d.z = decide (decFlagSource src (BitVec.ofNat 8 u) d.r = 0#8)) :
    d.n = decide (128 ≤ decSource src u d.r.toNat) ∧ d.z = decide (decSource src u d.r.toNat = 0) := by
  rw [← decFlagSource_toNat src hu, hn, hz, getLsbD_seven]
  exact ⟨rfl, decide_eq_decide.mpr BitVec.toNat_inj.symm⟩

/-- On decimal digits the sum is that of the numbers modulo 100. -/
theorem addDec_bcd (src : DecNzSource) {a m : Byte} (c : Bool) (ha : isBcd a) (hm : isBcd m) :
    isBcd (addDec src a m c).r ∧
    bcdValue (addDec src a m c).r = (bcdValue a + bcdValue m + c.toNat) % 100 ∧
    (addDec src a m c).c = decide (100 ≤ bcdValue a + bcdValue m + c.toNat) := by
  obtain ⟨haHigh, haLow⟩ := ha
  obtain ⟨hmHigh, hmLow⟩ := hm
  have hc : c.toNat ≤ 1 := c.toNat_le
  obtain ⟨hhigh, hlow⟩ := addDec_digits src a m c
  have hlow19 : decLow a m c ≤ 19 := by unfold decLow; omega
  have hhigh19 : decHigh a m c ≤ 19 := by rw [decHigh_eq]; split <;> omega
  rw [adjusted_digit_of_le hlow19] at hlow
  rw [adjusted_digit_of_le hhigh19] at hhigh
  rw [isBcd, bcdValue, bcdValue, bcdValue, hhigh, hlow, addDec_c, decide_eq_decide]
  clear hhigh hlow
  rw [decHigh_eq] at hhigh19 ⊢
  unfold decLow at *
  split <;> split <;> omega

theorem not_toNat (m : Byte) : (~~~m).toNat = 255 - m.toNat := by rw [BitVec.toNat_not]

/-- The subtractor adds 10 to a low digit that borrowed, 160 to a byte that did. -/
theorem subDec_digits (src : DecNzSource) (a m : Byte) (c : Bool) :
    (subDec src a m c).r.toNat / 16 =
      (decDifference a m c + (if a.toNat + c.toNat < m.toNat + 1 then 160 else 0)) / 16 % 16 ∧
    (subDec src a m c).r.toNat % 16 =
      (decDifference a m c + (if a.toNat % 16 + c.toNat < m.toNat % 16 + 1 then 10 else 0)) % 16 := by
  have := a.isLt
  have := m.isLt
  have hc : c.toNat ≤ 1 := c.toNat_le
  have hlowAdjust : (if decide (15 < a.toNat % 16 + (~~~m).toNat % 16 + c.toNat) then 0 else 10) =
      if a.toNat % 16 + c.toNat < m.toNat % 16 + 1 then 10 else 0 := by
    rw [not_toNat]
    by_cases h : a.toNat % 16 + c.toNat < m.toNat % 16 + 1
    · rw [if_pos h, if_neg (by rw [decide_eq_true_eq]; omega)]
    · rw [if_neg h, if_pos (by rw [decide_eq_true_eq]; omega)]
  have hbyteAdjust : (if 15 < a.toNat / 16 + (~~~m).toNat / 16 +
      (decide (15 < a.toNat % 16 + (~~~m).toNat % 16 + c.toNat)).toNat then 0 else 0xA0) =
      if a.toNat + c.toNat < m.toNat + 1 then 160 else 0 := by
    rw [not_toNat]
    by_cases hlow : 15 < a.toNat % 16 + (255 - m.toNat) % 16 + c.toNat <;>
      by_cases h : a.toNat + c.toNat < m.toNat + 1 <;> simp only [hlow, h, decide_true, decide_false, if_true, if_false,
        Bool.toNat_true, Bool.toNat_false] <;> split <;> omega
  have hu : (a.toNat + (~~~m).toNat + c.toNat) % 256 = decDifference a m c := by rw [not_toNat, decDifference]
  rw [← hu, ← hlowAdjust, ← hbyteAdjust]
  exact digits_ofNat (Nat.mod_lt _ (by decide)) (Nat.mod_lt _ (by decide))

theorem subDec_c (src : DecNzSource) (a m : Byte) (c : Bool) :
    (subDec src a m c).c = !decide (a.toNat + c.toNat < m.toNat + 1) := by
  have := m.isLt
  have hcarry : (subDec src a m c).c = decide (255 < a.toNat + (~~~m).toNat + c.toNat) := rfl
  rw [hcarry, not_toNat, ← decide_not, decide_eq_decide]
  omega

/-- V is set where the operands have different signs and the unadjusted output not that of the first. -/
theorem subDec_v (src : DecNzSource) (a m : Byte) (c : Bool) :
    (subDec src a m c).v =
      decide (decide (128 ≤ a.toNat) ≠ decide (128 ≤ m.toNat) ∧
        decide (128 ≤ decDifference a m c) ≠ decide (128 ≤ a.toNat)) := by
  have hv : (subDec src a m c).v = ((a ^^^ m) &&& (a ^^^ BitVec.ofNat 8 (decDifference a m c))).getLsbD 7 := by
    simp only [subDec, not_toNat, decDifference]
  have hu : (BitVec.ofNat 8 (decDifference a m c)).toNat = decDifference a m c :=
    Nat.mod_eq_of_lt (decDifference_lt a m c)
  rw [hv, BitVec.getLsbD_and, BitVec.getLsbD_xor, BitVec.getLsbD_xor, getLsbD_seven, getLsbD_seven, getLsbD_seven, hu]
  cases decide (128 ≤ a.toNat) <;> cases decide (128 ≤ m.toNat) <;> cases decide (128 ≤ decDifference a m c) <;> rfl

/-- Where the subtraction borrows, the byte is 256 more than the difference, and its low digit 16 more. -/
theorem decDifference_eq (a m : Byte) (c : Bool) :
    decDifference a m c + m.toNat + 1 =
      a.toNat + c.toNat + (if a.toNat + c.toNat < m.toNat + 1 then 256 else 0) ∧
    decDifference a m c % 16 + m.toNat % 16 + 1 =
      a.toNat % 16 + c.toNat + (if a.toNat % 16 + c.toNat < m.toNat % 16 + 1 then 16 else 0) := by
  have := a.isLt
  have := m.isLt
  have hc : c.toNat ≤ 1 := c.toNat_le
  unfold decDifference
  constructor <;> split <;> omega

/-- Adding 10 to a low digit, or 160 to a byte, that borrowed takes 6 off the digit. -/
theorem adjusted_borrow {u : Nat} (hu : u < 256) :
    u / 16 % 16 = u / 16 ∧ (6 ≤ u % 16 → (u + 10) % 16 = u % 16 - 6) ∧
      (6 ≤ u / 16 → (u + 160) / 16 % 16 = u / 16 - 6) := by
  omega

/-- On decimal digits the adjusted digits are decimal, and stand for the difference modulo 100. -/
theorem adjusted_difference {a m c u lo hi : Nat} (hu : u < 256) (hc : c ≤ 1) (ha : a / 16 < 10 ∧ a % 16 < 10)
    (hm : m / 16 < 10 ∧ m % 16 < 10)
    (hbyte : u + m + 1 = a + c + (if a + c < m + 1 then 256 else 0))
    (hdigit : u % 16 + m % 16 + 1 = a % 16 + c + (if a % 16 + c < m % 16 + 1 then 16 else 0))
    (hhi : hi = (u + (if a + c < m + 1 then 160 else 0)) / 16 % 16)
    (hlo : lo = (u + (if a % 16 + c < m % 16 + 1 then 10 else 0)) % 16) :
    hi < 10 ∧ lo < 10 ∧ hi * 10 + lo = (a / 16 * 10 + a % 16 + 99 + c - (m / 16 * 10 + m % 16)) % 100 := by
  obtain ⟨hsame, hten, hsixteen⟩ := adjusted_borrow hu
  subst hhi hlo
  split at hbyte <;> split at hdigit <;> simp only [*, if_true, if_false, Nat.add_zero]
  · rw [hten (by omega), hsixteen (by omega)]
    omega
  · rw [hsixteen (by omega)]
    omega
  · rw [hten (by omega)]
    omega
  · omega

/-- On decimal digits the difference is that of the numbers modulo 100. -/
theorem subDec_bcd (src : DecNzSource) {a m : Byte} (c : Bool) (ha : isBcd a) (hm : isBcd m) :
    isBcd (subDec src a m c).r ∧
    bcdValue (subDec src a m c).r = (bcdValue a + 99 + c.toNat - bcdValue m) % 100 ∧
    (subDec src a m c).c = decide (bcdValue m + 1 ≤ bcdValue a + c.toNat) := by
  have hc : c.toNat ≤ 1 := c.toNat_le
  obtain ⟨hbyte, hdigit⟩ := decDifference_eq a m c
  obtain ⟨hhi, hlo⟩ := subDec_digits src a m c
  obtain ⟨hhigh, hlow, hvalue⟩ := adjusted_difference (decDifference_lt a m c) hc ha hm hbyte hdigit hhi hlo
  refine ⟨⟨hhigh, hlow⟩, hvalue, ?_⟩
  obtain ⟨haHigh, haLow⟩ := ha
  obtain ⟨hmHigh, hmLow⟩ := hm
  rw [subDec_c, ← decide_not, decide_eq_decide, bcdValue, bcdValue]
  omega

/-- Settles O5. -/
theorem decimalAdderAddsDecimalDigits : Obligations.DecimalAdderAddsDecimalDigits := by
  unfold Obligations.DecimalAdderAddsDecimalDigits
  intro src a m c
  refine ⟨fun ha hm => ?decimal, ?sum, ?difference⟩
  case decimal =>
    obtain ⟨hadd, haddValue, haddCarry⟩ := addDec_bcd src c ha hm
    exact ⟨hadd, haddValue, haddCarry, subDec_bcd src c ha hm⟩
  case sum =>
    obtain ⟨hhigh, hlow⟩ := addDec_digits src a m c
    have hcarry := addDec_c src a m c
    have hsign := addDec_v src a m c
    have hflags := decFlags_of_source (src := src) (d := addDec src a m c) (decSum_lt a m c) rfl rfl
    rw [decSum] at hsign hflags
    rw [decHigh_eq] at hhigh hcarry hsign hflags
    exact ⟨hlow, hhigh, hcarry, hsign, hflags⟩
  case difference =>
    obtain ⟨hhigh, hlow⟩ := subDec_digits src a m c
    have hu : decDifference a m c = (a.toNat + (~~~m).toNat + c.toNat) % 256 := by rw [not_toNat, decDifference]
    have hflags := decFlags_of_source (src := src) (d := subDec src a m c) (decDifference_lt a m c)
      (by rw [hu]; rfl) (by rw [hu]; rfl)
    simp only [decide_eq_true_eq]
    exact ⟨hlow, hhigh, subDec_c src a m c, subDec_v src a m c, hflags⟩

end Sys2Proof.Machine

/-! PROOF. How the two stack pointers move (45_stack.md R310): below 512 within the page, from 512 on through the whole
space; a push undone by a pull unless the pointer crosses 512 (R311). -/

namespace Sys2Proof.Machine

open Sys2Proof.Safety

/-! ## One move -/

theorem sDec_toNat_of_lt {p : Word} (h : p.toNat < 512) :
    (sDec p).toNat = p.toNat / 256 * 256 + (p.toNat + 255) % 256 := by
  have hbelow : belowThreshold p = true := decide_eq_true h
  rw [sDec, if_pos hbelow, pageAdd_toNat, BitVec.toNat_ofNat]
  omega

theorem sInc_toNat_of_lt {p : Word} (h : p.toNat < 512) :
    (sInc p).toNat = p.toNat / 256 * 256 + (p.toNat + 1) % 256 := by
  have hbelow : belowThreshold p = true := decide_eq_true h
  rw [sInc, if_pos hbelow, pageAdd_toNat, BitVec.toNat_ofNat]

theorem sDec_toNat_of_le {p : Word} (h : 512 ≤ p.toNat) : (sDec p).toNat = p.toNat - 1 := by
  have hbelow : ¬ belowThreshold p = true := by rw [belowThreshold, decide_eq_true_eq]; exact Nat.not_lt.mpr h
  rw [sDec, if_neg hbelow, BitVec.toNat_sub, BitVec.toNat_ofNat]
  omega

theorem sInc_toNat_of_le {p : Word} (h : 512 ≤ p.toNat) : (sInc p).toNat = (p.toNat + 1) % 65536 := by
  have hbelow : ¬ belowThreshold p = true := by rw [belowThreshold, decide_eq_true_eq]; exact Nat.not_lt.mpr h
  rw [sInc, if_neg hbelow, BitVec.toNat_add, BitVec.toNat_ofNat]

/-- Settles O51. -/
theorem stackPointerMoves : Obligations.StackPointerMoves := by
  unfold Obligations.StackPointerMoves
  exact ⟨fun _ => rfl, fun _ => ⟨fun h => ⟨sDec_toNat_of_lt h, sInc_toNat_of_lt h⟩,
    fun h => ⟨sDec_toNat_of_le h, sInc_toNat_of_le h⟩⟩⟩

/-- The pointer stays on its side of 512 when it moves down `n` times. -/
def StaysInRegion (n : Nat) (p : Word) : Prop := p.toNat < 512 ∨ 512 + n ≤ p.toNat

theorem StaysInRegion.sDec {n : Nat} {p : Word} (h : StaysInRegion (n + 1) p) : StaysInRegion n (sDec p) := by
  obtain h | h := h
  · left
    rw [sDec_toNat_of_lt h]
    omega
  · right
    rw [sDec_toNat_of_le (by omega)]
    omega

/-- A move up undoes the move down. -/
theorem sInc_sDec {n : Nat} {p : Word} (h : StaysInRegion (n + 1) p) : sInc (sDec p) = p := by
  apply BitVec.eq_of_toNat_eq
  have := p.isLt
  obtain h | h := h
  · have hdec := sDec_toNat_of_lt h
    rw [sInc_toNat_of_lt (by omega), hdec]
    omega
  · have hdec := sDec_toNat_of_le (p := p) (by omega)
    rw [sInc_toNat_of_le (by omega), hdec]
    omega

/-! ## The two pointers -/

/-- SP[1] or SP[0]; S is the one that MODE selects (10_state.md R25). -/
def State.pointer (s : State) (kernel : Bool) : Word := if kernel then s.spKernel else s.spUser

theorem State.sp_eq_pointer (s : State) : s.sp = s.pointer (getFlag .m s.p) := rfl

@[simp] theorem State.pointer_setSp (v : Word) (s : State) (k : Bool) :
    (s.setSp v).pointer k = if k = getFlag .m s.p then v else s.pointer k := by
  cases k <;> cases hm : getFlag .m s.p <;> simp [State.pointer, State.setSp_spUser, State.setSp_spKernel, hm]

@[simp] theorem State.pointer_push8 (v : Byte) (s : State) (k : Bool) :
    (s.push8 v).pointer k = if k = getFlag .m s.p then sDec s.sp else s.pointer k :=
  State.pointer_setSp (sDec s.sp) (s.writeByte s.sp v) k

@[simp] theorem State.pointer_push16 (v : Word) (s : State) (k : Bool) :
    (s.push16 v).pointer k = if k = getFlag .m s.p then sDec (sDec s.sp) else s.pointer k := by
  simp only [State.push16, State.pointer_push8, State.push8_sp, State.push8_p]
  split <;> rfl

@[simp] theorem State.pointer_pull8 (s : State) (k : Bool) :
    s.pull8.st.pointer k = if k = getFlag .m s.p then sInc s.sp else s.pointer k :=
  State.pointer_setSp (sInc s.sp) s k

@[simp] theorem State.pointer_pull16 (s : State) (k : Bool) :
    s.pull16.st.pointer k = if k = getFlag .m s.p then sInc (sInc s.sp) else s.pointer k := by
  have h : s.pull16.st = s.pull8.st.pull8.st := rfl
  rw [h, State.pointer_pull8, State.pointer_pull8, State.pull8_sp, State.pull8_p]
  split <;> rfl

theorem SameStackPointers.pointer {s t : State} (h : SameStackPointers s t) (k : Bool) :
    t.pointer k = s.pointer k := by
  obtain ⟨huser, hkernel⟩ := h
  cases k
  · exact huser
  · exact hkernel

/-! ## What a push and a pull change -/

/-- A push stores `n` bytes at the addresses `l`, moves S, and changes nothing else. -/
def PushFrame (n : Nat) (l : List Word) (s t : State) : Prop :=
  SameMemoryBut l s t ∧ t.p = s.p ∧ SameInactivePointer s t ∧ SameRegisters s t ∧ SameControl s t ∧ t.ps = s.ps ∧
    Counted 0 n s t

def PushedByte (b : Byte) (s t : State) : Prop :=
  t.readByte s.sp = b ∧ t.sp = sDec s.sp ∧ PushFrame 1 [s.sp] s t

def PushedWord (w : Word) (s t : State) : Prop :=
  t.readByte s.sp = hiByte w ∧ t.readByte (sDec s.sp) = loByte w ∧ t.sp = sDec (sDec s.sp) ∧
    PushFrame 2 [s.sp, sDec s.sp] s t

theorem sameControl_of {s t : State} (ip : t.ip = s.ip) (wp : t.wp = s.wp) (nmi : t.nmiPending = s.nmiPending)
    (irq : t.irq = s.irq) (cfg : t.cfg = s.cfg) (pc : t.pc = s.pc) : SameControl s t :=
  ⟨⟨ip, wp, nmi, irq, cfg⟩, pc⟩

theorem State.push8_pushed (b : Byte) (s : State) (h : s.mem.wf = true) : PushedByte b s (s.push8 b) := by
  refine ⟨?_, s.push8_sp b, fun a ha => ?_, by simp, s.push8_inactive b, sameRegisters_of (by simp) (by simp) (by simp),
    sameControl_of (by simp) (by simp) (by simp) (by simp) (by simp) (by simp), by simp, s.push8_counters b⟩
  · rw [State.readByte_push8 b s _ h, if_pos rfl]
  · rw [State.readByte_push8 b s a h, if_neg (by simpa using ha)]

theorem State.push16_pushed (w : Word) (s : State) (h : s.mem.wf = true) : PushedWord w s (s.push16 w) := by
  refine ⟨?_, ?_, s.push16_sp w, fun a ha => ?_, by simp, s.push16_inactive w,
    sameRegisters_of (by simp) (by simp) (by simp),
    sameControl_of (by simp) (by simp) (by simp) (by simp) (by simp) (by simp), by simp, s.push16_counters w⟩
  · rw [State.readByte_push16 w s _ h, if_neg (sDec_ne s.sp).symm, if_pos rfl]
  · rw [State.readByte_push16 w s _ h, if_pos rfl]
  · simp only [List.mem_cons, List.not_mem_nil, or_false, not_or] at ha
    rw [State.readByte_push16 w s a h, if_neg ha.2, if_neg ha.1]

end Sys2Proof.Machine

/-! PROOF. Traps and the return from them (60_exceptions.md sections 2 and 4), and reset (70_reset_and_hazards.md
section 1). -/

namespace Sys2Proof.Machine

open Sys2Proof.Safety

/-! ## The trap entry -/

/-- The state in which the trap frame is pushed: MODE is set before the pushes under kernelFirst, after them under the
literal order (60_exceptions.md R416). -/
def frameState (s : State) : State :=
  match s.cfg.trapStackOrder with
  | .kernelFirst => s.setP .m true
  | .literal => s

/-- The state after the three pushes. -/
def framePushed (s : State) : State := ((frameState s).push16 s.pc).push8 (withBreak s.p)

@[simp] theorem State.readWord_setP (f : Flag) (v : Bool) (s : State) (ea : EA) :
    (s.setP f v).readWord ea = s.readWord ea := rfl

theorem trapEntry_eq (v : Word) (s : State) :
    (trapEntry v s).mem = (framePushed s).mem ∧ (trapEntry v s).pc = (framePushed s).readWord ⟨v, .full⟩ ∧
      ∀ k, (trapEntry v s).pointer k = (framePushed s).pointer k := by
  simp only [trapEntry, framePushed, frameState]
  cases s.cfg.trapStackOrder <;>
    exact ⟨by simp, by simp, fun _ => by simp [State.pointer]⟩

@[simp] theorem frameState_mem (s : State) : (frameState s).mem = s.mem := by
  unfold frameState
  split <;> rfl

@[simp] theorem frameState_pointer (s : State) (k : Bool) : (frameState s).pointer k = s.pointer k := by
  unfold frameState
  split <;> rfl

/-- MODE while the frame is pushed. -/
theorem frameState_mode (s : State) :
    getFlag .m (frameState s).p = decide (s.cfg.trapStackOrder = .kernelFirst ∨ getFlag .m s.p = true) := by
  unfold frameState
  cases s.cfg.trapStackOrder <;> simp

/-- The pointer that the frame is pushed through. -/
theorem frameState_sp (s : State) :
    (frameState s).sp = if s.cfg.trapStackOrder = .kernelFirst then s.spKernel else s.sp := by
  unfold frameState
  cases s.cfg.trapStackOrder <;> simp [State.sp]

/-- The bytes of the frame: PC high, PC low, P with BREAK set, downwards. -/
theorem readByte_framePushed (s : State) (h : s.mem.wf = true) (a : Word) :
    (framePushed s).readByte a =
      if a = sDec (sDec (frameState s).sp) then withBreak s.p
      else if a = sDec (frameState s).sp then loByte s.pc
      else if a = (frameState s).sp then hiByte s.pc else s.readByte a := by
  have hmem : (frameState s).mem.wf = true := by rwa [frameState_mem]
  rw [framePushed, State.readByte_push8 _ _ _ (State.push16_wf _ _ hmem), State.push16_sp,
    State.readByte_push16 _ _ _ hmem, State.readByte_congr (frameState_mem s)]

theorem pointer_framePushed (s : State) (k : Bool) :
    (framePushed s).pointer k =
      if k = getFlag .m (frameState s).p then sDec (sDec (sDec (frameState s).sp)) else s.pointer k := by
  rw [framePushed, State.pointer_push8, State.push16_p, State.push16_sp, State.pointer_push16, frameState_pointer]
  split <;> rfl

/-- The return address past the signature byte, or at it under BRK_RETURN_OFFSET = 1 (46_control.md R370). -/
theorem brkReturn_eq (s : State) :
    brkReturn s = { s with pc := match s.cfg.brkReturnOffset with | .one => s.pc | .two => s.pc + 1#16 } := by
  have hpc : s.pc + s.cfg.brkReturnOffset.toWord - 1#16 =
      match s.cfg.brkReturnOffset with | .one => s.pc | .two => s.pc + 1#16 := by
    cases s.cfg.brkReturnOffset <;> simp only [OneOrTwo.toWord] <;> bv_omega
  rw [brkReturn, hpc]

/-- Settles O16. -/
theorem trapEntrySavesPcAndStatus : Obligations.TrapEntrySavesPcAndStatus := by
  unfold Obligations.TrapEntrySavesPcAndStatus
  refine ⟨fun s v hmem => ?trap, fun s => ?brk⟩
  case brk => exact congrArg (fun u => Host.Outcome.next (trapEntry s.cfg.vecIrq u)) (brkReturn_eq s)
  case trap =>
    obtain ⟨htmem, htpc, htpointer⟩ := trapEntry_eq v s
    intro t k
    have hk : (frameState s).sp = k := frameState_sp s
    have hread : ∀ a, t.readByte a =
        if a = sDec (sDec k) then withBreak s.p else if a = sDec k then loByte s.pc
        else if a = k then hiByte s.pc else s.readByte a := fun a => by
      rw [State.readByte_congr htmem, readByte_framePushed s hmem, hk]
    have hpointer : ∀ b, t.pointer b =
        if b = getFlag .m (frameState s).p then sDec (sDec (sDec k)) else s.pointer b := fun b => by
      rw [htpointer, pointer_framePushed, hk]
    refine ⟨?high, ?low, ?status, ?memory, ?pointers, by simp [t], by simp [t], by simp [t], ?flags, ?pc,
      sameRegisters_of (by simp [t]) (by simp [t]) (by simp [t]),
      ⟨by simp [t], by simp [t], by simp [t], by simp [t], by simp [t]⟩, by simp [t], trapEntry_counters v s⟩
    case high => rw [hread, if_neg (sDec_sDec_ne k).symm, if_neg (sDec_ne k).symm, if_pos rfl]
    case low => rw [hread, if_neg (sDec_ne (sDec k)).symm, if_pos rfl]
    case status =>
      rw [hread, if_pos rfl]
      rfl
    case memory =>
      intro a ha
      simp only [List.mem_cons, List.not_mem_nil, or_false, not_or] at ha
      obtain ⟨h1, h2, h3⟩ := ha
      rw [hread, if_neg h3, if_neg h2, if_neg h1]
    case pointers =>
      rw [frameState_mode] at hpointer
      split
      next hkernel =>
        rw [decide_eq_true hkernel] at hpointer
        exact ⟨hpointer true, hpointer false⟩
      next huser =>
        rw [decide_eq_false huser] at hpointer
        exact ⟨hpointer false, hpointer true⟩
    case flags =>
      intro f hf
      simp only [List.mem_cons, List.not_mem_nil, or_false, not_or] at hf
      simp [t, hf]
    case pc => exact htpc.trans (State.readWord_congr htmem.symm _)

/-! ## The return -/

/-- MODE, and so the stack, that RTI pulls PC under: the one it started with, or under the literal order the pulled
one (46_control.md R371). -/
def returnState (s : State) : State :=
  match s.cfg.trapStackOrder with
  | .kernelFirst => s.pull8.st
  | .literal => { s.pull8.st with p := withBreak s.pull8.val }

theorem trapReturn_eq (s : State) :
    (trapReturn s).pc = (returnState s).pull16.val ∧
      ∀ k, (trapReturn s).pointer k = (returnState s).pull16.st.pointer k := by
  simp only [trapReturn, returnState]
  cases s.cfg.trapStackOrder <;> exact ⟨rfl, fun _ => rfl⟩

@[simp] theorem returnState_mem (s : State) : (returnState s).mem = s.mem := by
  unfold returnState
  split <;> simp

theorem returnState_pointer (s : State) (k : Bool) : (returnState s).pointer k = s.pull8.st.pointer k := by
  unfold returnState
  split <;> rfl

theorem returnState_mode (s : State) :
    getFlag .m (returnState s).p =
      if s.cfg.trapStackOrder = .kernelFirst then getFlag .m s.p else getFlag .m s.pull8.val := by
  unfold returnState
  cases s.cfg.trapStackOrder <;> simp

/-- Settles O17. -/
theorem rtiRestoresStatusAndPc : Obligations.RtiRestoresStatusAndPc := by
  unfold Obligations.RtiRestoresStatusAndPc
  intro s
  refine ⟨trapReturn s, rfl, ?_⟩
  intro m ptr k1 b j
  obtain ⟨hpc, hpointer⟩ := trapReturn_eq s
  have hsame : s.cfg.trapStackOrder = .kernelFirst ∨ getFlag .m b = m ↔ getFlag .m (returnState s).p = m := by
    rw [returnState_mode]
    by_cases horder : s.cfg.trapStackOrder = .kernelFirst
    · simp [horder, m]
    · simp [horder, m, b, k1]
  have hj : (returnState s).sp = j := by
    rw [State.sp_eq_pointer, returnState_pointer, State.pointer_pull8]
    by_cases hmode : getFlag .m (returnState s).p = m
    · simp only [j, if_pos (hsame.mpr hmode)]
      exact if_pos hmode
    · have hother : getFlag .m (returnState s).p = !m := Bool.eq_not.mpr hmode
      simp only [j, if_neg (fun h => hmode (hsame.mp h))]
      rw [if_neg hmode, hother]
      rfl
  have hstays : ∀ k, (trapReturn s).pointer k =
      if k = getFlag .m (returnState s).p then sInc (sInc j) else if k = m then k1 else s.pointer k := fun k => by
    rw [hpointer, State.pointer_pull16, hj, returnState_pointer, State.pointer_pull8]
  refine ⟨trapReturn_p s, ?pc, ?pointers, State.readByte_congr (trapReturn_mem s),
    sameRegisters_of (by simp) (by simp) (by simp), ⟨by simp, by simp, by simp, by simp, by simp⟩, by simp,
    trapReturn_counters s⟩
  case pc =>
    rw [hpc, State.pull16_val, hj, State.readByte_congr (returnState_mem s), State.readByte_congr (returnState_mem s)]
  case pointers =>
    split
    next hcond =>
      rw [hsame.mp hcond] at hstays
      exact ⟨(hstays m).trans (if_pos rfl), (hstays !m).trans (by simp [ptr, State.pointer])⟩
    next hcond =>
      have hother : getFlag .m (returnState s).p = !m := Bool.eq_not.mpr fun h => hcond (hsame.mpr h)
      rw [hother] at hstays
      exact ⟨(hstays m).trans (by simp), (hstays !m).trans (if_pos rfl)⟩

/-! ## The return undoes the trap -/

/-- Settles O18: RTI pulls the three bytes that the entry pushed, from the addresses it pushed them to. -/
theorem returnUndoesTheTrap : Obligations.ReturnUndoesTheTrap := by
  unfold Obligations.ReturnUndoesTheTrap
  intro s v hmem horder hregion
  obtain ⟨hhigh, hlow, hstatus, hmemory, hpointers, hmode, -, -, -, -, hregisters, hbackground, -, -⟩ :=
    trapEntrySavesPcAndStatus.1 s v hmem
  simp only [horder, if_true, true_or] at hhigh hlow hstatus hmemory hpointers
  obtain ⟨hkernel, huser⟩ := hpointers
  obtain ⟨t, hexec, hp, hpc, hpointers', hmemory', hregisters', hbackground', -, -⟩ :=
    rtiRestoresStatusAndPc (trapEntry v s)
  have horder' : (trapEntry v s).cfg.trapStackOrder = .kernelFirst := by rw [trapEntry_cfg, horder]
  have hstays : StaysInRegion 3 s.spKernel := hregion
  have hsp : (trapEntry v s).sp = sDec (sDec (sDec s.spKernel)) := by rw [State.sp, if_pos hmode, hkernel]
  simp only [horder', hmode, true_or, if_true, hsp, sInc_sDec hstays.sDec.sDec, sInc_sDec hstays.sDec,
    sInc_sDec hstays, hstatus, hhigh, hlow, huser, mkWord_hiByte_loByte] at hp hpc hpointers'
  refine ⟨t, hexec, ?_, hpc, ⟨hpointers'.2, hpointers'.1⟩, fun q => (hregisters' q).trans (hregisters q), ?_,
    fun a ha => (hmemory' a).trans (hmemory a ha)⟩
  · rw [hp, BitVec.or_assoc, BitVec.or_self]
  · obtain ⟨hip, hwp, hnmi, hirq, hcfg⟩ := hbackground
    obtain ⟨hip', hwp', hnmi', hirq', hcfg'⟩ := hbackground'
    exact ⟨hip'.trans hip, hwp'.trans hwp, hnmi'.trans hnmi, hirq'.trans hirq, hcfg'.trans hcfg⟩

/-! ## Reset -/

/-- RESET_SEED is a word written at the RESET vector (70_reset_and_hazards.md R451). -/
theorem resetCore_mem_of_seed {s : State} {w : Word} (h : s.cfg.resetSeed = some w) :
    (resetCore s).mem = (s.writeMem ⟨s.cfg.vecReset, .full⟩ .word w).mem := by
  change seedReset s.cfg s.mem = _
  rw [seedReset, h]
  rfl

theorem resetCore_pc (s : State) : (resetCore s).pc = (resetCore s).readWord ⟨s.cfg.vecReset, .full⟩ := rfl

/-- Settles O19. -/
theorem resetSetsEveryElement : Obligations.ResetSetsEveryElement := by
  unfold Obligations.ResetSetsEveryElement
  intro s hmem
  refine ⟨rfl, rfl, rfl, rfl, rfl, rfl, rfl, rfl, rfl, rfl, rfl, rfl, rfl, rfl, fun hnone => ?none,
    fun w hseed => ⟨?pc, fun a ha => ?memory⟩⟩
  case none =>
    change seedReset s.cfg s.mem = _
    rw [seedReset, hnone]
  case pc =>
    rw [resetCore_pc, State.readWord_congr (resetCore_mem_of_seed hseed)]
    exact State.readMem_writeMem ⟨s.cfg.vecReset, .full⟩ .word w s hmem
  case memory =>
    rw [State.readByte_congr (resetCore_mem_of_seed hseed)]
    exact State.writeMem_sameBut ⟨s.cfg.vecReset, .full⟩ .word w s a ha

/-- Settles O20. -/
theorem resetStateIsTheReference : Obligations.ResetStateIsTheReference := by
  unfold Obligations.ResetStateIsTheReference
  refine ⟨fun s hcfg hmem hirq => ?_, rfl, rfl, rfl, rfl, rfl, rfl, rfl⟩
  simp only [resetCore, hcfg, hmem, hirq]
  rfl

end Sys2Proof.Machine

/-! PROOF. Effective addresses (40_addressing.md sections 1 to 4): what each mode computes before the indirection of ind
as a number, with osx inactive and active, and what that indirection adds. -/

namespace Sys2Proof.Machine

open Sys2Proof.Safety

/-! ## osx and ind -/

theorem State.osxOn_eq_false_iff (s : State) : s.osxOn = false ↔ s.ps.osx = false ∨ s.ps.lscx = true := by
  cases h : s.ps.osx <;> simp [State.osxOn, h]

theorem State.osxOn_eq_true_iff (s : State) : s.osxOn = true ↔ s.ps.osx = true ∧ s.ps.lscx = false := by
  simp [State.osxOn]

theorem State.withInd_of_ind_false {s : State} (h : s.ps.ind = false) (ea : EA) : s.withInd ea = ea := by
  simp [State.withInd, h]

theorem State.withInd_of_ind {s : State} (h : s.ps.ind = true) (ea : EA) : s.withInd ea = ⟨s.readWord ea, .full⟩ := by
  simp [State.withInd, h, State.deref]

/-- The index that an osx address keeps, as a number (40_addressing.md R119). -/
theorem State.keptIdx_toNat (s : State) (r : RegName) :
    (s.keptIdx r).toNat = if s.cfg.osxKeepsIndex then (s.slot0 (s.rho r)).toNat else 0 := by
  unfold State.keptIdx State.idx
  split <;> rfl

/-! ## The zero page -/

theorem State.zpAddr_of_osxOff {s : State} (h : s.osxOn = false) (z : Byte) : s.zpAddr z = ⟨zext z, .page⟩ := by
  simp [State.zpAddr, h]

theorem State.zpIdxAddr_of_osxOff {s : State} (h : s.osxOn = false) (z : Byte) (r : RegName) :
    s.zpIdxAddr z r = ⟨(zext z + s.idx r) &&& 0x00FF#16, .page⟩ := by
  simp [State.zpIdxAddr, h]

theorem State.zpIdxAddr_toNat_of_osxOff {s : State} (h : s.osxOn = false) (z : Byte) (r : RegName) :
    (s.zpIdxAddr z r).addr.toNat = (z.toNat + (s.slot0 (s.rho r)).toNat) % 256 := by
  rw [State.zpIdxAddr_of_osxOff h, and_00ff_toNat, BitVec.toNat_add, zext_toNat, State.idx]
  omega

/-- An indexed mode's address is that of its register, before ind. -/
theorem State.effAddr_zpIdx {s : State} (hind : s.ps.ind = false) {r : RegName} {m : MemMode} {z : Byte}
    (h : r = .x ∧ m = .zpX z ∨ r = .y ∧ m = .zpY z) : s.effAddr m = s.zpIdxAddr z r := by
  obtain ⟨rfl, rfl⟩ | ⟨rfl, rfl⟩ := h <;> exact State.withInd_of_ind_false hind _

/-- Settles O30. -/
theorem zeroPageAddresses : Obligations.ZeroPageAddresses := by
  unfold Obligations.ZeroPageAddresses
  intro s z hosx hind
  have hoff := s.osxOn_eq_false_iff.mpr hosx
  have hzp : s.effAddr (.zp z) = ⟨zext z, .page⟩ :=
    (State.withInd_of_ind_false hind _).trans (State.zpAddr_of_osxOff hoff z)
  have hidx : ∀ r, (s.zpIdxAddr z r).wrap = .page := fun r => by rw [State.zpIdxAddr_of_osxOff hoff]
  rw [hzp, State.effAddr_zpIdx hind (.inl ⟨rfl, rfl⟩), State.effAddr_zpIdx hind (.inr ⟨rfl, rfl⟩)]
  exact ⟨zext_toNat z, State.zpIdxAddr_toNat_of_osxOff hoff z .x, State.zpIdxAddr_toNat_of_osxOff hoff z .y, rfl,
    hidx .x, hidx .y⟩

/-- Below 512 the zero-page addresses lie in the page of S (40_addressing.md R116). -/
theorem State.zp_of_osxOn_below {s : State} (h : s.osxOn = true) (hs : s.sp.toNat < 512) (z : Byte) (r : RegName) :
    s.zpAddr z = ⟨pageAdd s.sp (zext z), .page⟩ ∧
      s.zpIdxAddr z r = ⟨pageAdd s.sp (zext z + s.keptIdx r), .page⟩ := by
  have hbelow : belowThreshold s.sp = true := decide_eq_true hs
  simp [State.zpAddr, State.zpIdxAddr, h, hbelow]

/-- From 512 on they lie in the whole space (40_addressing.md R117, R118). -/
theorem State.zp_of_osxOn_above {s : State} (h : s.osxOn = true) (hs : 512 ≤ s.sp.toNat) (z : Byte) (r : RegName) :
    s.zpAddr z = ⟨s.sp + zext z, .full⟩ ∧ s.zpIdxAddr z r = ⟨s.sp + sext z + s.keptIdx r, .full⟩ := by
  have hbelow : belowThreshold s.sp = false := decide_eq_false (Nat.not_lt.mpr hs)
  simp [State.zpAddr, State.zpIdxAddr, h, hbelow]

/-- Settles O31. -/
theorem stackRelativeZeroPageAddresses : Obligations.StackRelativeZeroPageAddresses := by
  unfold Obligations.StackRelativeZeroPageAddresses
  intro s z r m hosx hlscx hind hm i
  have hon := s.osxOn_eq_true_iff.mpr ⟨hosx, hlscx⟩
  have hi : (s.keptIdx r).toNat = i := s.keptIdx_toNat r
  have hzp : s.effAddr (.zp z) = s.zpAddr z := State.withInd_of_ind_false hind _
  rw [hzp, State.effAddr_zpIdx hind hm]
  refine ⟨fun hbelow => ?below, fun habove => ?above⟩
  case below =>
    obtain ⟨hz, hidx⟩ := State.zp_of_osxOn_below hon hbelow z r
    rw [hz, hidx, pageAdd_toNat, pageAdd_toNat, BitVec.toNat_add, zext_toNat, hi]
    refine ⟨rfl, ?_, rfl, rfl⟩
    omega
  case above =>
    obtain ⟨hz, hidx⟩ := State.zp_of_osxOn_above hon habove z r
    rw [hz, hidx]
    refine ⟨by rw [BitVec.toNat_add, zext_toNat], ?_, rfl, rfl⟩
    rw [sext, add_signExtend_eq_ofInt, ← hi, BitVec.ofInt_add, BitVec.ofInt_add, BitVec.ofInt_natCast,
      BitVec.ofInt_natCast, BitVec.ofInt_add, BitVec.ofInt_natCast, BitVec.ofNat_toNat, BitVec.ofNat_toNat]
    simp

/-! ## Absolute -/

theorem State.effAddr_absIdx {s : State} (hind : s.ps.ind = false) {r : RegName} {m : MemMode} {a : Word}
    (h : r = .x ∧ m = .absX a ∨ r = .y ∧ m = .absY a) : s.effAddr m = s.absIdxAddr a r := by
  obtain ⟨rfl, rfl⟩ | ⟨rfl, rfl⟩ := h <;> exact State.withInd_of_ind_false hind _

/-- Settles O32. -/
theorem absoluteAddresses : Obligations.AbsoluteAddresses := by
  unfold Obligations.AbsoluteAddresses
  intro s a r m hind hm i
  have habs : s.effAddr (.abs a) = s.absAddr a := State.withInd_of_ind_false hind _
  rw [habs, State.effAddr_absIdx hind hm]
  refine ⟨fun hosx => ?off, fun hosx => ?on, rfl, rfl⟩
  case off =>
    have hoff := s.osxOn_eq_false_iff.mpr hosx
    simp only [State.absAddr, State.absIdxAddr, hoff]
    exact ⟨rfl, BitVec.toNat_add a _⟩
  case on =>
    have hon := s.osxOn_eq_true_iff.mpr hosx
    simp only [State.absAddr, State.absIdxAddr, hon, if_true]
    refine ⟨BitVec.toNat_add _ _, ?_⟩
    rw [BitVec.toNat_add, BitVec.toNat_add, State.keptIdx_toNat, Nat.mod_add_mod]

/-! ## Pointers -/

/-- Settles O33. -/
theorem indirectAddresses : Obligations.IndirectAddresses := by
  unfold Obligations.IndirectAddresses
  refine ⟨fun s z a hind => ?plain, fun s m z hind => ?indirect⟩
  case plain =>
    have hreads : s.indReads = 0 := by simp [State.indReads, hind]
    simp only [State.effAddr, State.withInd_of_ind_false hind]
    refine ⟨rfl, rfl, rfl, rfl, rfl, ?_, ?_⟩ <;> simp [State.pointerReads, hreads]
  case indirect =>
    intro u
    have hind' : u.ps.ind = false := rfl
    have hreads : s.indReads = 2 ∧ u.indReads = 0 := by simp [State.indReads, hind, u]
    have hkeeps : ∀ ea, u.withInd ea = ea := State.withInd_of_ind_false hind'
    have hadds : ∀ ea, s.withInd ea = ⟨s.readWord ea, .full⟩ := State.withInd_of_ind hind
    refine ⟨?reads, fun hm => ?modes, ?zpIY⟩
    case reads => cases m <;> simp [State.pointerReads, hreads]
    case modes =>
      cases m with
      | zpIY z' => exact absurd rfl (hm z')
      | _ => simp only [State.effAddr, hkeeps, hadds]; rfl
    case zpIY => simp only [State.effAddr, hkeeps, hadds]; rfl

end Sys2Proof.Machine

/-! PROOF. Pushes, pulls and stack moves (45_stack.md), calls and jumps (46_control.md section 2), the flag instructions
(section 3), the Forth words (47_forth_vm.md section 2). -/

namespace Sys2Proof.Machine

open Sys2Proof.Safety

/-! ## Pushes -/

theorem exec_of_pushForm_of_no_conflict {i : Instr} {r : RegName} {s : State} (h : pushForm i = some r)
    (hc : s.conflict = false) :
    exec i s = .next (s.pushW s.width (maskW s.width (s.slot0 (s.rho r)))) := by
  rw [exec_of_pushForm h]
  exact guardExchange_of_no_conflict _ hc

/-- Settles O52. -/
theorem pushes : Obligations.Pushes := by
  unfold Obligations.Pushes
  intro s hmem
  refine ⟨fun i r hform hc => ⟨_, exec_of_pushForm_of_no_conflict hform hc, fun hW => ?byte, fun hW => ?word⟩,
    ⟨_, rfl, s.push8_pushed (withBreak s.p) hmem⟩, ⟨_, rfl, s.push16_pushed s.ip hmem⟩⟩
  case byte =>
    rw [hW, State.pushW, loByte_maskW]
    exact s.push8_pushed _ hmem
  case word =>
    rw [hW]
    exact s.push16_pushed _ hmem

/-! ## Pulls -/

/-- What a pull of width W reads, and where it leaves S. -/
theorem State.pullW_spec (W : Width) (s : State) :
    (s.pullW W).val =
      (match W with
        | .byte => zext (s.readByte (sInc s.sp))
        | .word => mkWord (s.readByte (sInc (sInc s.sp))) (s.readByte (sInc s.sp))) ∧
    (s.pullW W).st.sp = (match W with | .byte => sInc s.sp | .word => sInc (sInc s.sp)) ∧
    SameInactivePointer s (s.pullW W).st := by
  cases W with
  | byte => exact ⟨rfl, s.pull8_sp, s.pull8_inactive⟩
  | word => exact ⟨s.pull16_val, s.pull16_sp, s.pull16_inactive⟩

/-! ## A write to a register slot -/

theorem slot0_congr {s t : State} {r : RegName} (h : t.stack r = s.stack r) : t.slot0 r = s.slot0 r :=
  congrArg RegStack.tos h

/-- A state with the registers and the configuration of another, one slot of it written and P replaced. -/
theorem written_spec {s u : State} (r : RegName) (W : Width) (v : Word) (f : Byte → Byte) (hu : SameRegisters s u)
    (hcfg : u.cfg = s.cfg) :
    SlotHolds r W v s ((u.wrReg (.slot r) W v).mapP f) ∧ SameRegistersBut r s ((u.wrReg (.slot r) W v).mapP f) := by
  obtain ⟨hslot, ⟨hothers, hnos, hbos⟩, -⟩ := u.wrReg_slot_spec r W v
  constructor
  · cases W with
    | word => exact hslot
    | byte =>
      obtain ⟨hlow, hhigh⟩ := hslot
      rw [hcfg, slot0_congr (hu r)] at hhigh
      exact ⟨hlow, hhigh⟩
  · exact ⟨fun q hq => (hothers q hq).trans (hu q), hnos.trans (congrArg RegStack.nos (hu r)),
      hbos.trans (congrArg RegStack.bos (hu r))⟩

/-- What the pull of a register leaves (45_stack.md R320 to R322). -/
theorem exec_of_pullForm_of_no_conflict {i : Instr} {r : RegName} {s : State} (h : pullForm i = some r)
    (hc : s.conflict = false) :
    exec i s = .next (((s.pullW s.width).st.wrReg (.slot (s.rho r)) s.width (s.pullW s.width).val).mapP
      (flagsNZ s.width (s.pullW s.width).val)) := by
  rw [exec_of_pullForm h]
  exact guardExchange_of_no_conflict _ hc

/-- The active pointer and the inactive one are read off MODE and the two pointers. -/
theorem State.sp_mapP_wrReg_slot (u : State) (r : RegName) (W : Width) (v : Word) {f : Byte → Byte}
    (hf : getFlag .m (f u.p) = getFlag .m u.p) : ((u.wrReg (.slot r) W v).mapP f).sp = u.sp :=
  State.sp_congr (by simpa using hf) (by simp) (by simp)

theorem pullReg_spec {i : Instr} {r : RegName} {s : State} (h : pullForm i = some r) (hc : s.conflict = false) :
    ∃ t, exec i s = .next t ∧ SlotHolds (s.rho r) s.width (s.pullW s.width).val s t ∧
      FlagsOfValue s.width (s.pullW s.width).val [] s t ∧ t.sp = (s.pullW s.width).st.sp ∧
      SameInactivePointer s t ∧ SameRegistersBut (s.rho r) s t ∧ t.mem = s.mem ∧ SameControl s t ∧ t.ps = s.ps ∧
      Counted s.width.bytes 0 s t := by
  obtain ⟨-, -, huser, hkernel⟩ := s.pullW_spec s.width
  obtain ⟨hslot, hothers⟩ := written_spec (s := s) (u := (s.pullW s.width).st) (s.rho r) s.width
    (s.pullW s.width).val (flagsNZ s.width (s.pullW s.width).val)
    (sameRegisters_of (by simp) (by simp) (by simp)) (by simp)
  exact ⟨_, exec_of_pullForm_of_no_conflict h hc, hslot, flagsOfValue_of (by simp),
    State.sp_mapP_wrReg_slot _ _ _ _ (by simp), ⟨fun hm => by simpa using huser hm, fun hm => by simpa using hkernel hm⟩,
    hothers, by simp, sameControl_of (by simp) (by simp) (by simp) (by simp) (by simp) (by simp), by simp,
    by simp [Counted]⟩

/-- PLP: P is the pulled byte with BREAK set and the MODE it had (45_stack.md R319). -/
theorem exec_plp (s : State) :
    exec .plp s =
      .next { s.pull8.st with p := setFlag .m (getFlag .m s.p) (withBreak (s.readByte (sInc s.sp))) } := rfl

theorem State.sp_withP {s : State} {q : Byte} (h : getFlag .m q = getFlag .m s.p) :
    State.sp { s with p := q } = s.sp :=
  State.sp_congr h rfl rfl

/-- Settles O53. -/
theorem pulls : Obligations.Pulls := by
  unfold Obligations.Pulls
  intro s k1 k2
  refine ⟨fun i r hform hc => ?register, ?status⟩
  case register =>
    obtain ⟨hval, hsp, -⟩ := s.pullW_spec s.width
    have h := pullReg_spec hform hc
    rw [hval, hsp] at h
    exact h
  case status =>
    refine ⟨_, exec_plp s, by simp, by simp, fun f hm hb => by simp [hm, hb, k1], ?pointer, s.pull8_inactive,
      sameRegisters_of (by simp) (by simp) (by simp), by simp,
      sameControl_of (by simp) (by simp) (by simp) (by simp) (by simp) (by simp), by simp, s.pull8_counters⟩
    case pointer =>
      have hmode : getFlag .m (setFlag .m (getFlag .m s.p) (withBreak (s.readByte k1))) = getFlag .m s.pull8.st.p := by
        simp
      exact (State.sp_withP hmode).trans s.pull8_sp

/-! ## Stack moves -/

theorem State.stack_setStack (r q : RegName) (v : RegStack) (s : State) :
    (s.setStack r v).stack q = if q = r then v else s.stack q := by
  cases r <;> cases q <;> rfl

/-- DUP, SWP and ROT put the moved slots into the register stack that the exchange selects (45_stack.md R324). -/
theorem exec_of_movedSlots {i : Instr} {s : State} {r : RegStack} (h : movedSlots i (s.stack s.selectedStack) = some r)
    (hc : s.conflict = false) : exec i s = .next (s.setStack s.selectedStack r) := by
  cases i with
  | dup | swp | rot =>
    cases h
    exact guardExchange_of_no_conflict _ hc
  | _ => nomatch h

/-- Settles O54. -/
theorem stackMoves : Obligations.StackMoves := by
  unfold Obligations.StackMoves
  intro i s r hc q hmoved
  refine ⟨_, exec_of_movedSlots hmoved hc, ?_, fun q' hq' => ?_, by simp [SameStackPointers], by simp, by simp,
    sameControl_of (by simp) (by simp) (by simp) (by simp) (by simp) (by simp), by simp, by simp⟩
  · rw [State.stack_setStack]
    exact if_pos rfl
  · rw [State.stack_setStack]
    exact if_neg hq'

/-! ## Calls and jumps -/

/-- Settles O56. -/
theorem jumpsSetPc : Obligations.JumpsSetPc := by
  unfold Obligations.JumpsSetPc
  intro s a
  exact ⟨rfl, rfl, fun hc => guardExchange_of_no_conflict _ hc⟩

theorem exec_jsr (s : State) (a : Word) :
    exec (.jsr a) s = .next { (s.countReads s.indReads).push16 (s.pc - 1#16) with pc := s.jumpTarget a } := rfl

theorem exec_rts (s : State) : exec .rts s = .next { s.pull16.st with pc := s.pull16.val + 1#16 } := rfl

/-- Settles O57. -/
theorem callAndReturn : Obligations.CallAndReturn := by
  unfold Obligations.CallAndReturn
  intro s a hmem
  refine ⟨?call, ?ret⟩
  case call =>
    obtain ⟨hhigh, hlow, hsp, hmemory, hp, hinactive, hregisters, ⟨hbackground, -⟩, hps, hcounted⟩ :=
      (s.countReads s.indReads).push16_pushed (s.pc - 1#16) hmem
    exact ⟨_, exec_jsr s a, rfl, hhigh, hlow, hsp, hmemory, hp, hinactive, hregisters, hbackground, hps, hcounted⟩
  case ret =>
    refine ⟨_, exec_rts s, by simp, s.pull16_sp, by simp, by simp, s.pull16_inactive,
      sameRegisters_of (by simp) (by simp) (by simp), ⟨by simp, by simp, by simp, by simp, by simp⟩, by simp,
      s.pull16_counters⟩

/-- Settles O58: RTS pulls the two bytes that JSR pushed, from the addresses it pushed them to. -/
theorem returnUndoesTheCall : Obligations.ReturnUndoesTheCall := by
  unfold Obligations.ReturnUndoesTheCall
  intro s a hmem hregion
  have hstays : StaysInRegion 2 s.sp := hregion
  obtain ⟨⟨t, hcall, -, hhigh, hlow, hsp, hmemory, hp, ⟨huser, hkernel⟩, hregisters, hbackground, -, -⟩, -⟩ :=
    callAndReturn s a hmem
  have htmem : t.mem.wf = true := (exec_keepsInputs hcall).wf hmem
  obtain ⟨-, ⟨u, hreturn, hpc, hsp', hmem', hp', ⟨huser', hkernel'⟩, hregisters', hbackground', -, -⟩⟩ :=
    callAndReturn t a htmem
  have hback : u.sp = s.sp := by rw [hsp', hsp, sInc_sDec hstays.sDec, sInc_sDec hstays]
  refine ⟨t, u, hcall, hreturn, ?pc, ?pointers, hp'.trans hp, fun q => (hregisters' q).trans (hregisters q), ?background,
    fun b hb => (State.readByte_congr hmem' b).trans (hmemory b hb)⟩
  case pc =>
    rw [hpc, hsp, sInc_sDec hstays.sDec, sInc_sDec hstays, hhigh, hlow, mkWord_hiByte_loByte]
    bv_omega
  case pointers =>
    have hmode : getFlag .m u.p = getFlag .m s.p := by rw [hp', hp]
    rw [State.sp, State.sp, hmode] at hback
    cases hm : getFlag .m s.p with
    | true =>
      rw [hm] at hback
      exact ⟨(huser' (hp ▸ hm)).trans (huser hm), hback⟩
    | false =>
      rw [hm] at hback
      exact ⟨hback, (hkernel' (hp ▸ hm)).trans (hkernel hm)⟩
  case background =>
    obtain ⟨hip, hwp, hnmi, hirq, hcfg⟩ := hbackground
    obtain ⟨hip', hwp', hnmi', hirq', hcfg'⟩ := hbackground'
    exact ⟨hip'.trans hip, hwp'.trans hwp, hnmi'.trans hnmi, hirq'.trans hirq, hcfg'.trans hcfg⟩

/-! ## Flags -/

/-- Settles O59. -/
theorem flagInstructionsAndNop : Obligations.FlagInstructionsAndNop := by
  unfold Obligations.FlagInstructionsAndNop
  refine ⟨fun i f v s hform => ⟨setFlag f v s.p, congrFun (exec_of_flagForm hform) s, by simp, fun g hg => by simp [hg]⟩,
    fun _ => rfl, fun _ => ⟨rfl, rfl, rfl, rfl, rfl, rfl, rfl, rfl⟩⟩

/-! ## The Forth words -/

/-- Settles O60. -/
theorem forthInstructions : Obligations.ForthInstructions := by
  unfold Obligations.ForthInstructions
  intro s next same
  refine ⟨?nxt, fun hmem => ?ent, ?pli, rfl⟩
  case nxt =>
    exact ⟨_, rfl, ⟨rfl, rfl, rfl⟩,
      ⟨rfl, ⟨fun _ => rfl, fun _ => rfl⟩, fun _ => rfl, rfl, rfl, rfl, rfl⟩, rfl, rfl, rfl⟩
  case ent =>
    obtain ⟨hhigh, hlow, hsp, hmemory, hp, hinactive, hregisters, ⟨⟨-, -, hnmi, hirq, hcfg⟩, -⟩, hps, -⟩ :=
      s.push16_pushed s.ip hmem
    exact ⟨_, rfl, ⟨rfl, rfl, rfl⟩, ⟨hp, hinactive, hregisters, hnmi, hirq, hcfg, hps⟩, hsp, hhigh, hlow, hmemory,
      by simp [Counted]⟩
  case pli =>
    exact ⟨_, rfl, s.pull16_val, by simp, by simp,
      ⟨by simp, s.pull16_inactive, sameRegisters_of (by simp) (by simp) (by simp), by simp, by simp, by simp, by simp⟩,
      s.pull16_sp, by simp, s.pull16_counters⟩

end Sys2Proof.Machine

/-! PROOF. What the operations that instructions share do to their register, their datum and the rest of the state
(42_load_store_transfer.md, 43_alu.md, 44_rmw_bit.md). Each is stated for an operand outside ipp mode; the ipp-mode
operations follow by Laws/Ipp. -/

namespace Sys2Proof.Machine

open Sys2Proof.Safety

/-! ## The three kinds of change -/

/-- Slot 0 of `r` may change, and P and PrefixState; `n` bytes are read; all else stays. -/
structure SlotFrame (r : RegName) (n : Nat) (s t : State) : Prop where
  others : SameRegistersBut r s t
  pointers : SameStackPointers s t
  mem : t.mem = s.mem
  control : SameControl s t
  counted : Counted n 0 s t

/-- The active stack pointer may change, and P and PrefixState; `n` bytes are read; all else stays. -/
structure PointerFrame (n : Nat) (s t : State) : Prop where
  inactive : SameInactivePointer s t
  registers : SameRegisters s t
  mem : t.mem = s.mem
  control : SameControl s t
  counted : Counted n 0 s t

/-- P and PrefixState may change; `n` bytes are read; all else stays. -/
structure ReadFrame (n : Nat) (s t : State) : Prop where
  registers : SameRegisters s t
  pointers : SameStackPointers s t
  mem : t.mem = s.mem
  control : SameControl s t
  counted : Counted n 0 s t

/-- The datum of width W at `ea` becomes `v`, and P and PrefixState may change; `n` bytes are read; all else stays. -/
structure DatumFrame (ea : EA) (W : Width) (v : Word) (n : Nat) (s t : State) : Prop where
  datum : t.readMem ea W = maskW W v
  memory : SameMemoryBut (bytesAt ea W) s t
  registers : SameRegisters s t
  pointers : SameStackPointers s t
  control : SameControl s t
  counted : Counted n W.bytes s t

theorem SlotFrame.sameMemory {r : RegName} {n : Nat} {s t : State} (h : SlotFrame r n s t) : SameMemory s t :=
  State.readByte_congr h.mem

theorem ReadFrame.sameMemory {n : Nat} {s t : State} (h : ReadFrame n s t) : SameMemory s t :=
  State.readByte_congr h.mem

/-- A slot written, with P replaced, after `n` data reads. -/
theorem slotFrame_of (r : RegName) (W : Width) (v : Word) (n : Nat) (f : Byte → Byte) (s : State) :
    SlotHolds r W v s (((s.countReads n).wrReg (.slot r) W v).mapP f) ∧
      SlotFrame r n s (((s.countReads n).wrReg (.slot r) W v).mapP f) := by
  obtain ⟨hslot, hothers⟩ := written_spec (s := s) (u := s.countReads n) r W v f
    (sameRegisters_of rfl rfl rfl) rfl
  refine ⟨hslot, hothers, ?_, by simp, ?_, by simp [Counted]⟩
  · exact ⟨by simp, by simp⟩
  · exact sameControl_of (by simp) (by simp) (by simp) (by simp) (by simp) (by simp)

/-- S written as a register, with P replaced but for MODE, after `n` data reads. -/
theorem pointerFrame_of (W : Width) (v : Word) (n : Nat) {f : Byte → Byte} {s : State}
    (hf : getFlag .m (f s.p) = getFlag .m s.p) :
    PointerHolds W v s (((s.countReads n).wrReg .sp W v).mapP f) ∧
      PointerFrame n s (((s.countReads n).wrReg .sp W v).mapP f) := by
  obtain ⟨hholds, hregisters, hinactive⟩ := (s.countReads n).wrReg_sp_spec W v
  have hsp : (((s.countReads n).wrReg .sp W v).mapP f).sp = ((s.countReads n).wrReg .sp W v).sp :=
    State.sp_withP (by simpa using hf)
  refine ⟨?_, hinactive, hregisters, by simp,
    sameControl_of (by simp) (by simp) (by simp) (by simp) (by simp) (by simp), by simp [Counted]⟩
  cases W with
  | word => exact hsp.trans hholds
  | byte =>
    simp only [PointerHolds, hsp]
    exact hholds

theorem readFrame_of (n : Nat) (f : Byte → Byte) (s : State) : ReadFrame n s ((s.countReads n).mapP f) :=
  ⟨sameRegisters_of rfl rfl rfl, ⟨rfl, rfl⟩, rfl, sameControl_of rfl rfl rfl rfl rfl rfl, rfl⟩

/-- A datum written, with P replaced, after `n` data reads. -/
theorem datumFrame_of (ea : EA) (W : Width) (v : Word) (n : Nat) (f : Byte → Byte) {s : State}
    (h : s.mem.wf = true) : DatumFrame ea W v n s (((s.countReads n).writeMem ea W v).mapP f) := by
  have hmem : (((s.countReads n).writeMem ea W v).mapP f).mem = ((s.countReads n).writeMem ea W v).mem := rfl
  refine ⟨?datum, ?memory, sameRegisters_of (by simp) (by simp) (by simp), ⟨by simp, by simp⟩,
    sameControl_of (by simp) (by simp) (by simp) (by simp) (by simp) (by simp), ?counted⟩
  case datum => exact State.readMem_writeMem ea W v (s.countReads n) h
  case memory => exact State.writeMem_sameBut ea W v (s.countReads n)
  case counted => exact State.writeMem_counters ea W v (s.countReads n)

/-! PrefixState is not looked at. -/

theorem SlotHolds.of_ps {r : RegName} {W : Width} {v : Word} {s t : State} {q : PrefixState}
    (h : SlotHolds r W v { s with ps := q } t) : SlotHolds r W v s t := h

theorem SlotFrame.of_ps {r : RegName} {n : Nat} {s t : State} {q : PrefixState}
    (h : SlotFrame r n { s with ps := q } t) : SlotFrame r n s t :=
  ⟨h.others, h.pointers, h.mem, h.control, h.counted⟩

theorem PointerFrame.of_ps {n : Nat} {s t : State} {q : PrefixState} (h : PointerFrame n { s with ps := q } t) :
    PointerFrame n s t :=
  ⟨h.inactive, h.registers, h.mem, h.control, h.counted⟩

theorem ReadFrame.of_ps {n : Nat} {s t : State} {q : PrefixState} (h : ReadFrame n { s with ps := q } t) :
    ReadFrame n s t :=
  ⟨h.registers, h.pointers, h.mem, h.control, h.counted⟩

theorem DatumFrame.of_ps {ea : EA} {W : Width} {v : Word} {n : Nat} {s t : State} {q : PrefixState}
    (h : DatumFrame ea W v n { s with ps := q } t) : DatumFrame ea W v n s t :=
  ⟨h.datum, h.memory, h.registers, h.pointers, h.control, h.counted⟩

/-! ## Operands -/

theorem zext_toNat_lt (b : Byte) : (zext b).toNat < 2 ^ Width.byte.bits := by
  rw [zext_toNat]
  exact b.isLt

theorem State.readMem_lt (s : State) (ea : EA) (W : Width) : (s.readMem ea W).toNat < 2 ^ W.bits := by
  cases W with
  | byte => exact zext_toNat_lt _
  | word => exact (s.readWord ea).isLt

/-- An operand fits its width. -/
theorem State.operandValue_lt (s : State) (o : Operand) (W : Width) : (s.operandValue o W).toNat < 2 ^ W.bits := by
  cases o with
  | imm v => exact maskW_toNat_lt W v
  | mem m => exact s.readMem_lt _ W

@[simp] theorem State.maskW_readMem (s : State) (ea : EA) (W : Width) : maskW W (s.readMem ea W) = s.readMem ea W :=
  maskW_of_lt (s.readMem_lt ea W)

@[simp] theorem State.width_osxCleared (s : State) : (osxCleared s).width = s.width := rfl

/-! ## Flags -/

/-- N and Z of a value over a status byte that differs from P in the flags `l` alone. -/
theorem flagsOfValue_of_flagsNZ {W : Width} {v : Word} {l : List Flag} {s t : State} {q : Byte}
    (ht : t.p = flagsNZ W v q) (hq : ∀ f, f ∉ l → getFlag f q = getFlag f s.p) : FlagsOfValue W v l s t := by
  refine ⟨by simp [ht], by simp [ht], fun f hf => ?_⟩
  simp only [List.mem_cons, not_or] at hf
  obtain ⟨hn, hz, hl⟩ := hf
  simp [ht, hn, hz, hq f hl]

/-! ## Loads, stores, transfers -/

theorem loadReg_spec {r : RegName} {o : Operand} {s : State} (hc : s.conflict = false) (ho : isIpp o = false) :
    ∃ t, loadReg r o s = .next t ∧ SlotHolds (s.rho r) s.width (s.operandValue o s.width) s t ∧
      FlagsOfValue s.width (s.operandValue o s.width) [] s t ∧
      SlotFrame (s.rho r) (operandReads s o s.width) s t ∧ t.ps = s.ps := by
  rw [loadReg, loadInto, State.consume_eq ho, guardExchange_of_no_conflict _ hc]
  obtain ⟨hslot, hframe⟩ := slotFrame_of (s.rho r) s.width (s.operandValue o s.width) (operandReads s o s.width)
    (flagsNZ s.width (s.operandValue o s.width)) s
  exact ⟨_, rfl, hslot, flagsOfValue_of (by simp), hframe, by simp⟩

/-- A store of a value at the operand's address. -/
theorem store_spec {m : MemMode} (W : Width) (v : Word) {s : State} (ho : isIpp (.mem m) = false)
    (hmem : s.mem.wf = true) :
    DatumFrame (s.effAddr m) W v (s.pointerReads m) s (s.store m W v) := by
  rw [State.store_eq ho]
  exact datumFrame_of (s.effAddr m) W v (s.pointerReads m) id hmem

theorem storeReg_spec {r : RegName} {m : MemMode} {s : State} (hc : s.conflict = false)
    (ho : isIpp (.mem m) = false) (hmem : s.mem.wf = true) :
    ∃ t, storeReg r m s = .next t ∧
      DatumFrame (s.effAddr m) s.width (maskW s.width (s.slot0 (s.rho r))) (s.pointerReads m) s t ∧
      t.p = s.p ∧ t.ps = s.ps := by
  rw [storeReg, guardExchange_of_no_conflict _ hc]
  exact ⟨_, rfl, store_spec s.width _ ho hmem, by simp, by simp⟩

theorem storeZero_spec {m : MemMode} {s : State} (hc : s.conflict = false) (ho : isIpp (.mem m) = false)
    (hmem : s.mem.wf = true) :
    ∃ t, storeZero m s = .next t ∧ DatumFrame (s.effAddr m) s.width 0#16 (s.pointerReads m) s t ∧
      t.p = s.p ∧ t.ps = s.ps := by
  rw [storeZero, guardExchange_of_no_conflict _ hc]
  exact ⟨_, rfl, store_spec s.width 0#16 ho hmem, by simp, by simp⟩

theorem State.countReads_zero (s : State) : s.countReads 0 = s := rfl

theorem transfer_spec {src dst : RegName} {s : State} (hc : s.conflict = false) :
    ∃ t, transfer src dst s = .next t ∧
      SlotHolds (s.rho dst) s.width (maskW s.width (s.slot0 (s.rho src))) s t ∧
      FlagsOfValue s.width (maskW s.width (s.slot0 (s.rho src))) [] s t ∧ SlotFrame (s.rho dst) 0 s t ∧
      t.ps = s.ps := by
  rw [transfer, guardExchange_of_no_conflict _ hc]
  obtain ⟨hslot, hframe⟩ := slotFrame_of (s.rho dst) s.width (maskW s.width (s.slot0 (s.rho src))) 0
    (flagsNZ s.width (maskW s.width (s.slot0 (s.rho src)))) s
  rw [State.countReads_zero] at hslot hframe
  exact ⟨_, rfl, hslot, flagsOfValue_of (by simp [State.rdReg, State.dataReg]), hframe, by simp⟩

/-! ## S in place of X -/

/-- LDX, STX and CPX work on S (41_prefix.md R158). -/
def Redirected (s : State) : Prop := s.ps.osx = true ∧ s.cfg.osxRegRedirect = true ∧ s.ps.oax = false

/-- PrefixState with lscx set under osx. -/
def lscxMarked (ps : PrefixState) : PrefixState := { ps with lscx := ps.lscx || ps.osx }

theorem State.markLscx_eq {o : Operand} (ho : isIpp o = false) (s : State) :
    s.markLscx o = { s with ps := lscxMarked s.ps } := by
  have hps : (s.markLscx o).ps = lscxMarked s.ps := State.markLscx_ps ho s
  rw [← hps]
  unfold State.markLscx
  split <;> rfl

/-- Their address, operand and reads are those with osx clear (41_prefix.md R158). -/
theorem marked_operand {o : Operand} (ho : isIpp o = false) (s : State) :
    (∀ m, State.effAddr { s with ps := lscxMarked s.ps } m = (osxCleared s).effAddr m) ∧
      ∀ o' W, State.operandValue { s with ps := lscxMarked s.ps } o' W = (osxCleared s).operandValue o' W := by
  obtain ⟨heff, -, hvalue⟩ := State.markLscx_operand ho s
  rw [State.markLscx_eq ho] at heff hvalue
  exact ⟨heff, hvalue⟩

theorem indexDataReg_of_redirected {o : Operand} {s : State} (hc : s.conflict = false) (ho : isIpp o = false)
    (h : Redirected s) : s.indexDataReg o = .sp := (State.indexDataReg_eq ho s hc).trans (if_pos h)

theorem indexDataReg_of_not_redirected {o : Operand} {s : State} (hc : s.conflict = false) (ho : isIpp o = false)
    (h : ¬ Redirected s) : s.indexDataReg o = .slot (s.rho .x) := (State.indexDataReg_eq ho s hc).trans (if_neg h)

/-- The load of LDX into the register it finds. -/
theorem loadX_eq {o : Operand} {s : State} (hc : s.conflict = false) (ho : isIpp o = false) :
    loadX o s = .next (((State.countReads (operandReads s o s.width) { s with ps := lscxMarked s.ps }).wrReg
      (s.indexDataReg o) s.width ((osxCleared s).operandValue o s.width)).mapP
        (flagsNZ s.width ((osxCleared s).operandValue o s.width))) := by
  rw [loadX, guardExchange_of_no_conflict _ hc, State.markLscx_eq ho, loadInto, State.consume_eq ho,
    (marked_operand ho s).2]
  rfl

theorem loadX_spec {o : Operand} {s : State} (hc : s.conflict = false) (ho : isIpp o = false) :
    ∃ t, loadX o s = .next t ∧
      (Redirected s → PointerHolds s.width ((osxCleared s).operandValue o s.width) s t ∧
        PointerFrame (operandReads s o s.width) s t) ∧
      (¬ Redirected s → SlotHolds (s.rho .x) s.width ((osxCleared s).operandValue o s.width) s t ∧
        SlotFrame (s.rho .x) (operandReads s o s.width) s t) ∧
      FlagsOfValue s.width ((osxCleared s).operandValue o s.width) [] s t ∧ t.ps = lscxMarked s.ps := by
  refine ⟨_, loadX_eq hc ho, fun hred => ?_, fun hred => ?_, flagsOfValue_of (by simp), by simp⟩
  · rw [indexDataReg_of_redirected hc ho hred]
    obtain ⟨hholds, hframe⟩ := pointerFrame_of s.width ((osxCleared s).operandValue o s.width)
      (operandReads s o s.width) (f := flagsNZ s.width ((osxCleared s).operandValue o s.width))
      (s := { s with ps := lscxMarked s.ps }) (by simp)
    exact ⟨hholds, hframe.of_ps⟩
  · rw [indexDataReg_of_not_redirected hc ho hred]
    obtain ⟨hslot, hframe⟩ := slotFrame_of (s.rho .x) s.width ((osxCleared s).operandValue o s.width)
      (operandReads s o s.width) (flagsNZ s.width ((osxCleared s).operandValue o s.width))
      { s with ps := lscxMarked s.ps }
    exact ⟨SlotHolds.of_ps hslot, hframe.of_ps⟩

/-- The value of X, or of S in its place, at width W. -/
theorem rdReg_indexDataReg {o : Operand} {s : State} (hc : s.conflict = false) (ho : isIpp o = false) (W : Width) :
    (Redirected s → s.rdReg (s.indexDataReg o) W = maskW W s.sp) ∧
      (¬ Redirected s → s.rdReg (s.indexDataReg o) W = maskW W (s.slot0 (s.rho .x))) := by
  constructor <;> intro hred
  · rw [indexDataReg_of_redirected hc ho hred]
    rfl
  · rw [indexDataReg_of_not_redirected hc ho hred]
    rfl

theorem storeX_spec {m : MemMode} {s : State} (hc : s.conflict = false) (ho : isIpp (.mem m) = false)
    (hmem : s.mem.wf = true) :
    ∃ t, storeX m s = .next t ∧
      DatumFrame ((osxCleared s).effAddr m) s.width (s.rdReg (s.indexDataReg (.mem m)) s.width) (s.pointerReads m)
        s t ∧
      t.p = s.p ∧ t.ps = lscxMarked s.ps := by
  rw [storeX, guardExchange_of_no_conflict _ hc, State.markLscx_eq ho]
  have hframe := store_spec s.width (s.rdReg (s.indexDataReg (.mem m)) s.width)
    (s := { s with ps := lscxMarked s.ps }) ho hmem
  rw [(marked_operand ho s).1] at hframe
  exact ⟨_, rfl, hframe.of_ps, by simp, by simp⟩

/-! ## S and X -/

theorem txs_spec {s : State} (hc : s.conflict = false) :
    ∃ t, exec .txs s = .next t ∧ PointerHolds s.width (s.slot0 (s.rho .x)) s t ∧ PointerFrame 0 s t ∧ t.p = s.p ∧
      t.ps = s.ps := by
  obtain ⟨hholds, hframe⟩ := pointerFrame_of s.width (maskW s.width (s.slot0 (s.rho .x))) 0 (f := id) (s := s) rfl
  refine ⟨_, guardExchange_of_no_conflict _ hc, ?_, hframe, by simp, by simp⟩
  cases hW : s.width with
  | word =>
    rw [hW] at hholds
    exact hholds
  | byte =>
    rw [hW, PointerHolds, loByte_maskW] at hholds
    exact hholds

theorem SlotHolds.of_maskW {r : RegName} {W : Width} {v : Word} {s t : State} (h : SlotHolds r W (maskW W v) s t) :
    SlotHolds r W v s t := by
  cases W with
  | word => exact h
  | byte => rwa [SlotHolds, loByte_maskW] at h

theorem FlagsOfValue.of_maskW {W : Width} {v : Word} {l : List Flag} {s t : State}
    (h : FlagsOfValue W (maskW W v) l s t) : FlagsOfValue W v l s t := by
  rwa [FlagsOfValue, msbW_maskW, maskW_maskW] at h

theorem tsx_spec {s : State} (hc : s.conflict = false) :
    ∃ t, exec .tsx s = .next t ∧ SlotHolds (s.rho .x) s.width s.sp s t ∧ FlagsOfValue s.width s.sp [] s t ∧
      SlotFrame (s.rho .x) 0 s t ∧ t.ps = s.ps := by
  obtain ⟨hslot, hframe⟩ := slotFrame_of (s.rho .x) s.width (maskW s.width s.sp) 0
    (flagsNZ s.width (maskW s.width s.sp)) s
  rw [State.countReads_zero] at hslot hframe
  exact ⟨_, guardExchange_of_no_conflict _ hc, SlotHolds.of_maskW hslot,
    FlagsOfValue.of_maskW (flagsOfValue_of (by simp [State.rdReg])), hframe, by simp⟩

/-! ## Logic -/

theorem logic_spec {f : Word → Word → Word} {o : Operand} {s : State} (hc : s.conflict = false)
    (ho : isIpp o = false) :
    let r := f (maskW s.width (s.slot0 (s.rho .a))) (s.operandValue o s.width)
    ∃ t, logic f o s = .next t ∧ SlotHolds (s.rho .a) s.width r s t ∧ FlagsOfValue s.width r [] s t ∧
      SlotFrame (s.rho .a) (operandReads s o s.width) s t ∧ t.ps = s.ps := by
  intro r
  rw [logic, guardExchange_of_no_conflict _ hc, State.consume_eq ho]
  obtain ⟨hslot, hframe⟩ := slotFrame_of (s.rho .a) s.width r (operandReads s o s.width) (flagsNZ s.width r) s
  exact ⟨_, rfl, hslot, flagsOfValue_of (by simp [r, State.rdReg, State.dataReg]), hframe, by simp⟩

/-! ## Addition and subtraction -/

theorem decimalIn_of {r : RegName} {d : DecSum} {s t : State} (hslot : SlotHolds r .byte (zext d.r) s t)
    (hp : t.p = decFlags d s.p) : DecimalIn r d s t := by
  refine ⟨hslot, by simp [hp], by simp [hp], by simp [hp], by simp [hp], fun f hf => ?_⟩
  simp only [List.mem_cons, List.not_mem_nil, or_false, not_or] at hf
  simp [hp, hf]

theorem flagsOfValue_of_binFlags {W : Width} {b : BinSum} {s t : State} (hp : t.p = binFlags W b s.p) :
    FlagsOfValue W b.r [.c, .v] s t ∧ getFlag .c t.p = b.c ∧ getFlag .v t.p = b.v := by
  refine ⟨flagsOfValue_of_flagsNZ hp fun f hf => ?_, by simp [hp], by simp [hp]⟩
  simp only [List.mem_cons, List.not_mem_nil, or_false, not_or] at hf
  simp [hf]

/-- The sum as a word. -/
theorem addBin_r_eq (W : Width) (a m : Word) (c : Bool) :
    (addBin W a m c).r = BitVec.ofNat 16 ((a.toNat + m.toNat + c.toNat) % 2 ^ W.bits) := by
  rw [← addBin_r_toNat, BitVec.ofNat_toNat, BitVec.setWidth_eq]

/-- The difference as a word. -/
theorem subBin_r_eq {W : Width} {a m : Word} (c : Bool) (ha : a.toNat < 2 ^ W.bits) (hm : m.toNat < 2 ^ W.bits) :
    (subBin W a m c).r = BitVec.ofInt 16 (((a.toNat : Int) - m.toNat - 1 + c.toNat) % 2 ^ W.bits) := by
  obtain ⟨-, -, -, hr, -, -⟩ := binaryAdderIsExact W a m c ha hm
  rw [← hr, BitVec.ofInt_natCast, BitVec.ofNat_toNat, BitVec.setWidth_eq]

theorem sumIn_of_decimal {r : RegName} {W : Width} {a m : Word} {s t : State}
    (hdec : getFlag .d s.p = true ∧ W = .byte)
    (hslot : SlotHolds r W (zext (addDec s.cfg.decNzSource (loByte a) (loByte m) (getFlag .c s.p)).r) s t)
    (hp : t.p = decFlags (addDec s.cfg.decNzSource (loByte a) (loByte m) (getFlag .c s.p)) s.p) :
    SumIn r W a m s t := by
  rw [SumIn, if_pos hdec]
  obtain ⟨-, rfl⟩ := hdec
  exact decimalIn_of hslot hp

theorem sumIn_of_binary {r : RegName} {W : Width} {a m : Word} {s t : State} (ha : a.toNat < 2 ^ W.bits)
    (hm : m.toNat < 2 ^ W.bits) (hdec : ¬ (getFlag .d s.p = true ∧ W = .byte))
    (hslot : SlotHolds r W (addBin W a m (getFlag .c s.p)).r s t)
    (hp : t.p = binFlags W (addBin W a m (getFlag .c s.p)) s.p) : SumIn r W a m s t := by
  obtain ⟨hflags, hcarry, hoverflow⟩ := flagsOfValue_of_binFlags hp
  rw [addBin_r_eq] at hslot hflags
  rw [SumIn, if_neg hdec]
  refine ⟨hslot, hflags, hcarry, ?_⟩
  rw [hoverflow]
  exact addBin_overflow _ ha hm

theorem differenceIn_of_decimal {r : RegName} {W : Width} {a m : Word} {s t : State}
    (hdec : getFlag .d s.p = true ∧ W = .byte)
    (hslot : SlotHolds r W (zext (subDec s.cfg.decNzSource (loByte a) (loByte m) (getFlag .c s.p)).r) s t)
    (hp : t.p = decFlags (subDec s.cfg.decNzSource (loByte a) (loByte m) (getFlag .c s.p)) s.p) :
    DifferenceIn r W a m s t := by
  rw [DifferenceIn, if_pos hdec]
  obtain ⟨-, rfl⟩ := hdec
  exact decimalIn_of hslot hp

theorem differenceIn_of_binary {r : RegName} {W : Width} {a m : Word} {s t : State} (ha : a.toNat < 2 ^ W.bits)
    (hm : m.toNat < 2 ^ W.bits) (hdec : ¬ (getFlag .d s.p = true ∧ W = .byte))
    (hslot : SlotHolds r W (subBin W a m (getFlag .c s.p)).r s t)
    (hp : t.p = binFlags W (subBin W a m (getFlag .c s.p)) s.p) : DifferenceIn r W a m s t := by
  obtain ⟨hflags, hcarry, hoverflow⟩ := flagsOfValue_of_binFlags hp
  obtain ⟨-, -, -, -, hborrow, hfits⟩ := binaryAdderIsExact W a m (getFlag .c s.p) ha hm
  rw [subBin_r_eq _ ha hm] at hslot hflags
  rw [DifferenceIn, if_neg hdec]
  exact ⟨hslot, hflags, hcarry.trans hborrow, by rw [hoverflow]; exact hfits⟩

theorem decimal_iff (s : State) (W : Width) :
    (getFlag .d s.p && W == .byte) = true ↔ getFlag .d s.p = true ∧ W = .byte := by simp

theorem addWithCarry_spec {o : Operand} {s : State} (hc : s.conflict = false) (ho : isIpp o = false) :
    ∃ t, addWithCarry o s = .next t ∧
      SumIn (s.rho .a) s.width (maskW s.width (s.slot0 (s.rho .a))) (s.operandValue o s.width) s t ∧
      SlotFrame (s.rho .a) (operandReads s o s.width) s t ∧ t.ps = s.ps := by
  have ha := maskW_toNat_lt s.width (s.slot0 (s.rho .a))
  have hm := s.operandValue_lt o s.width
  rw [addWithCarry, guardExchange_of_no_conflict _ hc, State.consume_eq ho]
  refine ⟨_, rfl, ?_⟩
  split
  next hdec =>
    obtain ⟨hslot, hframe⟩ := slotFrame_of (s.rho .a) s.width _ (operandReads s o s.width) _ s
    exact ⟨sumIn_of_decimal ((decimal_iff s _).mp hdec) hslot (by simp [State.rdReg, State.dataReg]), hframe, by simp⟩
  next hdec =>
    obtain ⟨hslot, hframe⟩ := slotFrame_of (s.rho .a) s.width _ (operandReads s o s.width) _ s
    exact ⟨sumIn_of_binary ha hm (mt (decimal_iff s _).mpr hdec) hslot (by simp [State.rdReg, State.dataReg]), hframe,
      by simp⟩

theorem subWithCarry_spec {o : Operand} {s : State} (hc : s.conflict = false) (ho : isIpp o = false) :
    ∃ t, subWithCarry o s = .next t ∧
      DifferenceIn (s.rho .a) s.width (maskW s.width (s.slot0 (s.rho .a))) (s.operandValue o s.width) s t ∧
      SlotFrame (s.rho .a) (operandReads s o s.width) s t ∧ t.ps = s.ps := by
  have ha := maskW_toNat_lt s.width (s.slot0 (s.rho .a))
  have hm := s.operandValue_lt o s.width
  rw [subWithCarry, guardExchange_of_no_conflict _ hc, State.consume_eq ho]
  refine ⟨_, rfl, ?_⟩
  split
  next hdec =>
    obtain ⟨hslot, hframe⟩ := slotFrame_of (s.rho .a) s.width _ (operandReads s o s.width) _ s
    exact ⟨differenceIn_of_decimal ((decimal_iff s _).mp hdec) hslot (by simp [State.rdReg, State.dataReg]), hframe,
      by simp⟩
  next hdec =>
    obtain ⟨hslot, hframe⟩ := slotFrame_of (s.rho .a) s.width _ (operandReads s o s.width) _ s
    exact ⟨differenceIn_of_binary ha hm (mt (decimal_iff s _).mpr hdec) hslot (by simp [State.rdReg, State.dataReg]),
      hframe, by simp⟩

end Sys2Proof.Machine

/-! PROOF. Comparison, bit test and the value transforms of 44_rmw_bit.md against exact integers, and what the operations
built on them leave. -/

namespace Sys2Proof.Machine

open Sys2Proof.Safety

/-! ## The value transforms -/

theorem isShift_iff (op : IppOp) : isShift op = true ↔
    op = .asl ∨ op = .lsr ∨ op = .rol ∨ op = .ror ∨ op = .inc ∨ op = .dec := by
  simp [isShift, or_assoc]

theorem bitWord_toNat (b : Bool) : (bitWord b).toNat = b.toNat := by cases b <;> rfl

theorem shl_one_toNat (v : Word) : (v <<< 1).toNat = 2 * v.toNat % 2 ^ 16 := by
  rw [BitVec.toNat_shiftLeft, Nat.shiftLeft_eq, Nat.mul_comm, Nat.pow_one]

theorem shr_one_toNat (v : Word) : (v >>> 1).toNat = v.toNat / 2 := by
  rw [BitVec.toNat_ushiftRight, Nat.shiftRight_eq_div_pow, Nat.pow_one]

/-- 2^W divides 2^16. -/
theorem mod_word_mod (W : Width) (n : Nat) : n % 2 ^ 16 % 2 ^ W.bits = n % 2 ^ W.bits :=
  Nat.mod_mod_of_dvd n (Nat.pow_dvd_pow 2 (by cases W <;> decide))

/-- A bit put into the place a left shift frees. -/
theorem shl_or_bit_toNat (v : Word) (b : Bool) :
    ((v <<< 1) ||| bitWord b).toNat = (2 * v.toNat + b.toNat) % 2 ^ 16 := by
  have hdisjoint : (v <<< 1) &&& bitWord b = 0#16 := by
    cases b with
    | false => exact BitVec.and_zero
    | true => simp [bitWord, BitVec.and_one_eq_setWidth_ofBool_getLsbD]
  rw [← BitVec.add_eq_or_of_and_eq_zero _ _ hdisjoint, BitVec.toNat_add, shl_one_toNat, bitWord_toNat, Nat.mod_add_mod]

/-- A bit put into the place a right shift frees at width W. -/
theorem shr_or_bit_toNat {W : Width} {v : Word} (b : Bool) (hv : v.toNat < 2 ^ W.bits) :
    ((v >>> 1) ||| (bitWord b <<< (W.bits - 1))).toNat = v.toNat / 2 + b.toNat * 2 ^ (W.bits - 1) := by
  have hhalf : v.toNat / 2 < 2 ^ (W.bits - 1) := by
    cases W <;> simp only [Width.bits] at hv ⊢ <;> omega
  have hbit : (bitWord b <<< (W.bits - 1)).toNat = b.toNat <<< (W.bits - 1) := by
    cases W <;> cases b <;> rfl
  rw [BitVec.toNat_or, shr_one_toNat, hbit, Nat.or_comm, ← Nat.shiftLeft_add_eq_or_of_lt hhalf, Nat.shiftLeft_eq,
    Nat.add_comm]

/-- The sign bit of a value that fits its width. -/
theorem msbW_eq_decide_le {W : Width} {v : Word} (hv : v.toNat < 2 ^ W.bits) :
    msbW W v = decide (2 ^ (W.bits - 1) ≤ v.toNat) := by
  rw [msbW_eq, decide_eq_decide]
  cases W <;> simp only [Width.bits] at hv ⊢ <;> omega

theorem lowBit_eq (v : Word) : v[0] = decide (v.toNat % 2 = 1) := by
  rw [← BitVec.getLsbD_eq_getElem, BitVec.getLsbD, Nat.testBit_zero]

/-- Each transform computes its exact value. -/
theorem shiftFn_r_toNat {op : IppOp} (hop : isShift op = true) {W : Width} {v : Word} (hv : v.toNat < 2 ^ W.bits)
    (p : Byte) : (shiftFn op W v p).r.toNat = shiftedValue op W v.toNat (getFlag .c p) := by
  rcases (isShift_iff op).mp hop with rfl | rfl | rfl | rfl | rfl | rfl
  · show (maskW W (v <<< 1)).toNat = 2 * v.toNat % 2 ^ W.bits
    rw [maskW_toNat, shl_one_toNat, mod_word_mod]
  · exact shr_one_toNat v
  · show (maskW W ((v <<< 1) ||| bitWord (getFlag .c p))).toNat = (2 * v.toNat + (getFlag .c p).toNat) % 2 ^ W.bits
    rw [maskW_toNat, shl_or_bit_toNat, mod_word_mod]
  · exact shr_or_bit_toNat _ hv
  · show (maskW W (v + 1#16)).toNat = (v.toNat + 1) % 2 ^ W.bits
    rw [maskW_toNat, BitVec.toNat_add, mod_word_mod]
    rfl
  · show (maskW W (v - 1#16)).toNat = (v.toNat + (2 ^ W.bits - 1)) % 2 ^ W.bits
    rw [maskW_toNat, BitVec.toNat_sub, mod_word_mod]
    cases W <;> simp only [Width.bits, BitVec.toNat_ofNat] <;> omega

/-- The exact value fits the width. -/
theorem shiftedValue_lt {op : IppOp} (hop : isShift op = true) {W : Width} {v : Nat} (hv : v < 2 ^ W.bits) (c : Bool) :
    shiftedValue op W v c < 2 ^ W.bits := by
  have hc := c.toNat_le
  rcases (isShift_iff op).mp hop with rfl | rfl | rfl | rfl | rfl | rfl <;>
    cases W <;> simp only [shiftedValue, Width.bits] at hv ⊢ <;> omega

/-- The result as a word. -/
theorem shiftFn_r {op : IppOp} (hop : isShift op = true) {W : Width} {v : Word} (hv : v.toNat < 2 ^ W.bits)
    (p : Byte) : (shiftFn op W v p).r = BitVec.ofNat 16 (shiftedValue op W v.toNat (getFlag .c p)) := by
  rw [← shiftFn_r_toNat hop hv, BitVec.ofNat_toNat, BitVec.setWidth_eq]

/-- What each transform does to P. -/
theorem getFlag_shiftFn {op : IppOp} (hop : isShift op = true) {W : Width} {v : Word} (hv : v.toNat < 2 ^ W.bits)
    (f : Flag) (p : Byte) :
    getFlag f (shiftFn op W v p).p =
      if f = .n then msbW W (shiftFn op W v p).r else if f = .z then decide (maskW W (shiftFn op W v p).r = 0#16)
      else if f = .c then shiftedCarry op W v.toNat (getFlag .c p) else getFlag f p := by
  rcases (isShift_iff op).mp hop with rfl | rfl | rfl | rfl | rfl | rfl
  · simp [shiftFn, aslFn, shifted, shiftedCarry, msbW_eq_decide_le hv]
  · simp [shiftFn, lsrFn, shifted, shiftedCarry, lowBit_eq]
  · simp [shiftFn, rolFn, shifted, shiftedCarry, msbW_eq_decide_le hv]
  · simp [shiftFn, rorFn, shifted, shiftedCarry, lowBit_eq]
  · cases f <;> simp [shiftFn, incFn, shiftedCarry]
  · cases f <;> simp [shiftFn, decFn, shiftedCarry]

/-- N, Z and C of a state whose P a transform gave. -/
theorem shiftFn_flags {op : IppOp} (hop : isShift op = true) {W : Width} {v : Word} (hv : v.toNat < 2 ^ W.bits)
    {s t : State} (ht : t.p = (shiftFn op W v s.p).p) :
    getFlag .c t.p = shiftedCarry op W v.toNat (getFlag .c s.p) ∧
      FlagsOfValue W (BitVec.ofNat 16 (shiftedValue op W v.toNat (getFlag .c s.p))) [.c] s t := by
  rw [← shiftFn_r hop hv]
  refine ⟨?_, ?_, ?_, fun f hf => ?_⟩
  · simp [ht, getFlag_shiftFn hop hv]
  · simp [ht, getFlag_shiftFn hop hv]
  · simp [ht, getFlag_shiftFn hop hv]
  · simp only [List.mem_cons, List.not_mem_nil, or_false, not_or] at hf
    simp [ht, getFlag_shiftFn hop hv, hf]

/-! ## Read-modify-write -/

/-- A datum read and written back, with P replaced. -/
theorem modify_spec {m : MemMode} (W : Width) (v : Word) (f : Byte → Byte) {s : State} (ho : isIpp (.mem m) = false)
    (hmem : s.mem.wf = true) :
    DatumFrame (s.effAddr m) W v (s.pointerReads m + W.bytes) s ((s.modify m W v).mapP f) := by
  rw [State.modify_eq ho]
  exact datumFrame_of (s.effAddr m) W v (s.pointerReads m + W.bytes) f hmem

theorem rmwMem_spec {op : IppOp} (hop : isShift op = true) {m : MemMode} {s : State} (hc : s.conflict = false)
    (ho : isIpp (.mem m) = false) (hmem : s.mem.wf = true) :
    let v := (s.readMem (s.effAddr m) s.width).toNat
    let w := BitVec.ofNat 16 (shiftedValue op s.width v (getFlag .c s.p))
    ∃ t, rmwMem (shiftFn op) m s = .next t ∧
      DatumFrame (s.effAddr m) s.width w (s.pointerReads m + s.width.bytes) s t ∧
      getFlag .c t.p = shiftedCarry op s.width v (getFlag .c s.p) ∧ FlagsOfValue s.width w [.c] s t ∧
      t.ps = s.ps := by
  intro v w
  have hv := s.readMem_lt (s.effAddr m) s.width
  have hframe := modify_spec s.width (shiftFn op s.width (s.readMem (s.effAddr m) s.width) s.p).r
    (fun _ => (shiftFn op s.width (s.readMem (s.effAddr m) s.width) s.p).p) ho hmem
  rw [shiftFn_r hop hv] at hframe
  obtain ⟨hcarry, hflags⟩ := shiftFn_flags (s := s)
    (t := (s.modify m s.width w).mapP fun _ => (shiftFn op s.width (s.readMem (s.effAddr m) s.width) s.p).p)
    hop hv rfl
  refine ⟨_, ?_, hframe, hcarry, hflags, by simp⟩
  rw [rmwMem, guardExchange_of_no_conflict _ hc]
  simp only [State.operandValue, shiftFn_r hop hv]

theorem rmwReg_spec {op : IppOp} (hop : isShift op = true) {r : RegName} {s : State} (hc : s.conflict = false) :
    let v := (maskW s.width (s.slot0 (s.rho r))).toNat
    let w := BitVec.ofNat 16 (shiftedValue op s.width v (getFlag .c s.p))
    ∃ t, rmwReg (shiftFn op) r s = .next t ∧ SlotHolds (s.rho r) s.width w s t ∧
      getFlag .c t.p = shiftedCarry op s.width v (getFlag .c s.p) ∧ FlagsOfValue s.width w [.c] s t ∧
      SlotFrame (s.rho r) 0 s t ∧ t.ps = s.ps := by
  intro v w
  have hv := maskW_toNat_lt s.width (s.slot0 (s.rho r))
  obtain ⟨hslot, hframe⟩ := slotFrame_of (s.rho r) s.width
    (shiftFn op s.width (maskW s.width (s.slot0 (s.rho r))) s.p).r 0
    (fun _ => (shiftFn op s.width (maskW s.width (s.slot0 (s.rho r))) s.p).p) s
  rw [State.countReads_zero] at hslot hframe
  rw [rmwReg, guardExchange_of_no_conflict _ hc]
  obtain ⟨hcarry, hflags⟩ := shiftFn_flags (s := s) hop hv
    (t := (s.wrReg (.slot (s.rho r)) s.width (shiftFn op s.width (maskW s.width (s.slot0 (s.rho r))) s.p).r).mapP
      fun _ => (shiftFn op s.width (maskW s.width (s.slot0 (s.rho r))) s.p).p) rfl
  have hvalue : (shiftFn op s.width (maskW s.width (s.slot0 (s.rho r))) s.p).r = w := shiftFn_r hop hv s.p
  exact ⟨_, rfl, by rw [← hvalue]; exact hslot, hcarry, hflags, hframe, by simp⟩

/-- The result of ASR against exact integers (44_rmw_bit.md R276). -/
theorem asrFn_r (fill : AsrFill) (v : Word) (p : Byte) :
    match fill with
    | .sign => (asrFn fill v p).r.toInt = v.toInt / 2
    | .nXorV => (asrFn fill v p).r.toNat = v.toNat / 2 + (getFlag .n p ^^ getFlag .v p).toNat * 32768 := by
  cases fill with
  | nXorV => exact shr_or_bit_toNat (W := .word) _ v.isLt
  | sign =>
    have hr : (asrFn .sign v p).r.toNat = v.toNat / 2 + (v.getLsbD 15).toNat * 32768 :=
      shr_or_bit_toNat (W := .word) _ v.isLt
    have hsign : v.getLsbD 15 = decide (32768 ≤ v.toNat) := msbW_eq_decide_le (W := .word) v.isLt
    have hlt := v.isLt
    simp only [BitVec.toInt_eq_toNat_cond, hr, hsign]
    by_cases hneg : 32768 ≤ v.toNat
    · simp only [hneg, decide_true, Bool.toNat_true]
      split <;> split <;> omega
    · simp only [hneg, decide_false, Bool.toNat_false]
      split <;> split <;> omega

theorem arithShift_spec {s : State} (hc : s.conflict = false) :
    let v := s.slot0 (s.rho .a)
    ∃ t, arithShift s = .next t ∧ t.slot0 (s.rho .a) = (asrFn s.cfg.asrFill v s.p).r ∧
      getFlag .c t.p = decide (v.toNat % 2 = 1) ∧ FlagsOfValue .word (t.slot0 (s.rho .a)) [.c] s t ∧
      SlotFrame (s.rho .a) 0 s t ∧ t.ps = s.ps := by
  intro v
  obtain ⟨hslot, hframe⟩ := slotFrame_of (s.rho .a) .word (asrFn s.cfg.asrFill v s.p).r 0
    (fun _ => (asrFn s.cfg.asrFill v s.p).p) s
  rw [State.countReads_zero] at hslot hframe
  rw [arithShift, guardExchange_of_no_conflict _ hc]
  have hresult : ((s.wrReg (.slot (s.rho .a)) .word (asrFn s.cfg.asrFill v s.p).r).mapP
      fun _ => (asrFn s.cfg.asrFill v s.p).p).slot0 (s.rho .a) = (asrFn s.cfg.asrFill v s.p).r := hslot
  refine ⟨_, rfl, hslot, ?_, ?_, hframe, by simp⟩
  · simp [asrFn, lowBit_eq, v, State.dataReg, State.rdReg, maskW]
  · rw [State.dataReg, State.rdReg, maskW, hresult]
    exact flagsOfValue_of_flagsNZ (q := setFlag .c (v.getLsbD 0) s.p) rfl fun f hf => by
      simp only [List.mem_cons, List.not_mem_nil, or_false] at hf
      simp [hf]

end Sys2Proof.Machine

/-! PROOF. Comparisons, bit tests and the operations that set and clear bits (43_alu.md sections 5 and 6,
44_rmw_bit.md sections 4 and 5). -/

namespace Sys2Proof.Machine

open Sys2Proof.Safety

/-! ## Comparison -/

/-- The difference a comparison takes its flags from. -/
theorem subBin_true_r {W : Width} {a m : Word} (hm : m.toNat < 2 ^ W.bits) :
    (subBin W (maskW W a) m true).r = maskW W (a - m) := by
  obtain ⟨-, -, -, hr, -, -⟩ := binaryAdderIsExact W (maskW W a) m true (maskW_toNat_lt W a) hm
  have ha := a.isLt
  rw [maskW_toNat] at hr
  apply BitVec.eq_of_toNat_eq
  rw [maskW_toNat, BitVec.toNat_sub, mod_word_mod]
  cases W <;> simp only [Width.bits, Bool.toNat_true] at hm hr ⊢ <;> omega

/-- A difference is 0 exactly when the operands are equal. -/
theorem maskW_sub_eq_zero {W : Width} {a m : Word} (hm : m.toNat < 2 ^ W.bits) :
    maskW W (a - m) = 0#16 ↔ maskW W a = m := by
  have ha := a.isLt
  rw [maskW_eq_zero, BitVec.toNat_sub, mod_word_mod, ← BitVec.toNat_inj, maskW_toNat]
  cases W <;> simp only [Width.bits] at hm ⊢ <;> omega

theorem signedW_maskW (W : Width) (v : Word) : signedW W (maskW W v) = signedW W v := by
  cases W with
  | word => rfl
  | byte => rw [signedW, loByte_maskW, signedW]

/-- The flags of a comparison at width W. -/
theorem flagsOfCompare_of {W : Width} {a m : Word} {s t : State} (hm : m.toNat < 2 ^ W.bits)
    (ht : t.p = cmpFlags W (maskW W a) m s.p) : FlagsOfCompare W a m s t := by
  obtain ⟨-, -, -, -, hborrow, hoverflow⟩ := binaryAdderIsExact W (maskW W a) m true (maskW_toNat_lt W a) hm
  have hr := subBin_true_r (a := a) hm
  refine ⟨?carry, ?zero, ?sign, ?byteOverflow, ?wordOverflow, fun f hf => ?others⟩
  case carry => simp [ht, hborrow]
  case zero => simp [ht, hr, maskW_sub_eq_zero hm]
  case sign => simp [ht, hr]
  case byteOverflow =>
    rintro rfl
    simp [ht]
  case wordOverflow =>
    rintro rfl
    rw [signedW_maskW, Bool.toNat_true, Nat.cast_one, sub_add_cancel] at hoverflow
    simpa [ht] using hoverflow
  case others =>
    simp only [List.mem_cons, List.not_mem_nil, or_false, not_or] at hf
    simp [ht, hf]

theorem compareReg_spec {r : RegName} {o : Operand} {s : State} (hc : s.conflict = false) (ho : isIpp o = false) :
    ∃ t, compareReg r o s = .next t ∧
      FlagsOfCompare s.width (s.slot0 (s.rho r)) (s.operandValue o s.width) s t ∧
      ReadFrame (operandReads s o s.width) s t ∧ t.ps = s.ps := by
  rw [compareReg, guardExchange_of_no_conflict _ hc, State.consume_eq ho]
  exact ⟨_, rfl, flagsOfCompare_of (s.operandValue_lt o s.width) rfl, readFrame_of _ _ s, rfl⟩

theorem compareX_spec {o : Operand} {s : State} (hc : s.conflict = false) (ho : isIpp o = false) :
    ∃ t, compareX o s = .next t ∧
      (Redirected s → FlagsOfCompare s.width s.sp ((osxCleared s).operandValue o s.width) s t) ∧
      (¬ Redirected s →
        FlagsOfCompare s.width (s.slot0 (s.rho .x)) ((osxCleared s).operandValue o s.width) s t) ∧
      ReadFrame (operandReads s o s.width) s t ∧ t.ps = lscxMarked s.ps := by
  obtain ⟨hsp, hx⟩ := rdReg_indexDataReg hc ho s.width
  have hm := (osxCleared s).operandValue_lt o s.width
  rw [compareX, guardExchange_of_no_conflict _ hc, State.markLscx_eq ho, State.consume_eq ho, (marked_operand ho s).2]
  refine ⟨_, rfl, fun hred => ?_, fun hred => ?_, ?_, rfl⟩
  · rw [hsp hred]
    exact flagsOfCompare_of hm rfl
  · rw [hx hred]
    exact flagsOfCompare_of hm rfl
  · exact (readFrame_of (operandReads s o s.width) _ { s with ps := lscxMarked s.ps }).of_ps

/-! ## Bit test -/

theorem bitMem_spec {m : MemMode} {s : State} (hc : s.conflict = false) (ho : isIpp (.mem m) = false) :
    ∃ t, bitMem m s = .next t ∧
      FlagsOfBitTest s.width (maskW s.width (s.slot0 (s.rho .a))) (s.operandValue (.mem m) s.width) s t ∧
      ReadFrame (operandReads s (.mem m) s.width) s t ∧ t.ps = s.ps := by
  rw [bitMem, guardExchange_of_no_conflict _ hc, State.consume_eq ho]
  refine ⟨_, rfl, ⟨?_, ?_, ?_, fun f hf => ?_⟩, readFrame_of _ _ s, rfl⟩
  · simp [State.mapP, State.rdReg, State.dataReg]
  · simp [State.mapP, msbW]
  · simp [State.mapP]
  · simp only [List.mem_cons, List.not_mem_nil, or_false, not_or] at hf
    simp [State.mapP, hf]

/-- Z of a test of A against a value, the other flags kept. -/
theorem testFlags_spec {a m : Word} {s t : State} (ht : t.p = testFlags a m s.p) :
    getFlag .z t.p = decide (a &&& m = 0#16) ∧ SameFlagsBut [.z] s t := by
  refine ⟨by simp [ht], fun f hf => ?_⟩
  simp only [List.mem_singleton] at hf
  simp [ht, hf]

theorem bitImmediate_spec {v : Word} {s : State} (hc : s.conflict = false) :
    ∃ t, bitImmediate v s = .next t ∧
      (getFlag .z t.p = decide (maskW s.width (s.slot0 (s.rho .a)) &&& s.operandValue (.imm v) s.width = 0#16) ∧
        SameFlagsBut [.z] s t) ∧
      ReadFrame 0 s t ∧ t.ps = s.ps := by
  rw [bitImmediate, guardExchange_of_no_conflict _ hc]
  exact ⟨_, rfl, testFlags_spec rfl, readFrame_of 0 _ s, rfl⟩

/-! ## TSB and TRB -/

theorem maskW_getLsbD (W : Width) (v : Word) (k : Nat) :
    (maskW W v).getLsbD k = (decide (k < W.bits) && v.getLsbD k) := by
  rw [BitVec.getLsbD, maskW_toNat, Nat.testBit_mod_two_pow, BitVec.getLsbD]

/-- `f v a` is `v` with the bits that `a` has set replaced by `b`. -/
def Replaces (f : Word → Word → Word) (b : Bool) : Prop :=
  ∀ v a k, (f v a).getLsbD k = if a.getLsbD k then b else v.getLsbD k

theorem or_replaces : Replaces (fun v a => v ||| a) true := fun v a k => by
  simp only [BitVec.getLsbD_or]
  cases a.getLsbD k <;> simp

theorem andNot_replaces : Replaces (fun v a => v &&& ~~~a) false := fun v a k => by
  simp only [BitVec.getLsbD_and, BitVec.getLsbD_not]
  by_cases hk : k < 16
  · cases a.getLsbD k <;> simp [hk]
  · simp [hk, BitVec.getLsbD_of_ge v k (by omega)]

/-- Replacing bits below W leaves a value of width W. -/
theorem Replaces.masked {f : Word → Word → Word} {b : Bool} (hf : Replaces f b) {W : Width} {v : Word} (a : Word)
    (hv : maskW W v = v) (k : Nat) :
    (maskW W (f v (maskW W a))).getLsbD k = if (maskW W a).getLsbD k then b else v.getLsbD k := by
  have hvk := maskW_getLsbD W v k
  rw [hv] at hvk
  rw [maskW_getLsbD, hf, maskW_getLsbD]
  by_cases hk : k < W.bits
  · simp [hk]
  · rw [decide_eq_false hk, Bool.false_and] at hvk
    simp [hk, hvk]

theorem testModify_spec {f : Word → Word → Word} {b : Bool} (hf : Replaces f b) {m : MemMode} {s : State}
    (hc : s.conflict = false) (ho : isIpp (.mem m) = false) (hmem : s.mem.wf = true) :
    let a := maskW s.width (s.slot0 (s.rho .a))
    let v := s.readMem (s.effAddr m) s.width
    ∃ t, testModify f m s = .next t ∧
      (∀ k, (t.readMem (s.effAddr m) s.width).getLsbD k = if a.getLsbD k then b else v.getLsbD k) ∧
      (getFlag .z t.p = decide (a &&& v = 0#16) ∧ SameFlagsBut [.z] s t) ∧
      DatumFrame (s.effAddr m) s.width (f v a) (s.pointerReads m + s.width.bytes) s t ∧ t.ps = s.ps := by
  intro a v
  have hframe := modify_spec s.width (f v a) (testFlags a v) ho hmem
  rw [testModify, guardExchange_of_no_conflict _ hc]
  refine ⟨_, rfl, fun k => ?_, testFlags_spec (by simp [State.rdReg, State.dataReg, State.operandValue, a, v]), hframe,
    by simp⟩
  exact (congrArg (·.getLsbD k) hframe.datum).trans (hf.masked _ (s.maskW_readMem (s.effAddr m) s.width) k)

/-! ## Memory bits -/

/-- The bits of a byte with one replaced. -/
theorem withBit_getLsbD {n k : Nat} (b : Bool) (m : Byte) (hk : k < 8) :
    (withBit n b m).getLsbD k = if k = n then b else m.getLsbD k := by
  have hbit : (1#8 <<< n).getLsbD k = decide (k = n) := by
    rw [BitVec.getLsbD_shiftLeft]
    by_cases hkn : k < n
    · simp [hkn, show k ≠ n by omega]
    · simp [hkn, hk, BitVec.getLsbD_one]
      omega
  cases b with
  | true =>
    rw [withBit, if_pos rfl, BitVec.getLsbD_or, hbit]
    by_cases h : k = n <;> simp [h]
  | false =>
    rw [withBit, if_neg Bool.false_ne_true, BitVec.getLsbD_and, BitVec.getLsbD_not, hbit]
    by_cases h : k = n <;> simp [h, hk]

theorem State.loByte_readMem_byte (s : State) (ea : EA) : loByte (s.readMem ea .byte) = s.readByte ea.addr :=
  loByte_zext _

theorem changeBit_spec {n : Fin 8} {b : Bool} {m : MemMode} {s : State} (ho : isIpp (.mem m) = false)
    (hmem : s.mem.wf = true) :
    ∃ t, changeBit n.val b m s = .next t ∧
      (∀ k, k < 8 → (t.readByte (s.effAddr m).addr).getLsbD k =
        if k = n.val then b else (s.readByte (s.effAddr m).addr).getLsbD k) ∧
      DatumFrame (s.effAddr m) .byte (zext (withBit n.val b (s.readByte (s.effAddr m).addr))) (s.pointerReads m + 1) s
        t ∧
      t.p = s.p ∧ t.ps = s.ps := by
  have hframe := modify_spec .byte (zext (withBit n.val b (s.readByte (s.effAddr m).addr))) id ho hmem
  have hbyte : ((s.modify m .byte (zext (withBit n.val b (s.readByte (s.effAddr m).addr)))).mapP id).readByte
      (s.effAddr m).addr = withBit n.val b (s.readByte (s.effAddr m).addr) := by
    rw [← State.loByte_readMem_byte, hframe.datum, loByte_maskW, loByte_zext]
  rw [changeBit, State.operandValue, State.loByte_readMem_byte]
  refine ⟨_, rfl, fun k hk => ?_, hframe, by simp, by simp⟩
  exact (congrArg (·.getLsbD k) hbyte).trans (withBit_getLsbD b _ hk)

end Sys2Proof.Machine

/-! PROOF. The loads, stores, transfers, ALU, read-modify-write and bit instructions (O35 to O50). -/

namespace Sys2Proof.Machine

open Sys2Proof.Safety

/-! ## Loads -/

/-- An operand value against the bytes it is read from. -/
theorem State.operandValue_toNat (s : State) (v : Word) (m : MemMode) :
    let ea := s.effAddr m
    (s.operandValue (.imm v) .byte).toNat = v.toNat % 256 ∧ s.operandValue (.imm v) .word = v ∧
    (s.operandValue (.mem m) .byte).toNat = (s.readByte ea.addr).toNat ∧
    (s.operandValue (.mem m) .word).toNat = (s.readByte ea.nextAddr).toNat * 256 + (s.readByte ea.addr).toNat :=
  ⟨maskW_toNat .byte v, rfl, zext_toNat _, mkWord_toNat _ _⟩

/-- Settles O35. -/
theorem loadsOfAAndY : Obligations.LoadsOfAAndY := by
  unfold Obligations.LoadsOfAAndY
  refine ⟨fun s v m => s.operandValue_toNat v m, fun i o r s hc hi => ?_⟩
  have hload : exec i = loadReg r o ∧ isIpp o = false := by
    obtain ⟨hi, rfl⟩ | ⟨hi, rfl⟩ := hi <;> exact ⟨exec_of_dataForm hi, isIpp_of_dataForm hi⟩
  obtain ⟨hexec, ho⟩ := hload
  obtain ⟨t, ht, hslot, hflags, hframe, hps⟩ := loadReg_spec (r := r) hc ho
  exact ⟨t, hexec ▸ ht, hslot, hflags, hframe.others, hframe.pointers, hframe.sameMemory, hframe.control, hps,
    hframe.counted⟩

/-- Settles O36. -/
theorem loadOfX : Obligations.LoadOfX := by
  unfold Obligations.LoadOfX
  intro i o s hc hi W u v
  obtain ⟨t, ht, hredirected, hplain, hflags, hps⟩ := loadX_spec hc (isIpp_of_dataForm hi)
  refine ⟨t, (congrFun (exec_of_dataForm hi) s).trans ht, ?_⟩
  split
  next hred =>
    obtain ⟨hholds, hframe⟩ := hredirected hred
    exact ⟨⟨hholds, hframe.inactive, hframe.registers⟩, hflags, State.readByte_congr hframe.mem, hframe.control, hps,
      hframe.counted⟩
  next hred =>
    obtain ⟨hslot, hframe⟩ := hplain hred
    exact ⟨⟨hslot, hframe.others, hframe.pointers⟩, hflags, hframe.sameMemory, hframe.control, hps, hframe.counted⟩

/-! ## Stores -/

/-- Settles O37. -/
theorem storesOfAYAndZero : Obligations.StoresOfAYAndZero := by
  unfold Obligations.StoresOfAYAndZero
  intro i m v s hc hmem hi W ea
  have hstored : ∃ t, exec i s = .next t ∧ DatumFrame ea W (maskW W v) (s.pointerReads m) s t ∧ t.p = s.p ∧
      t.ps = s.ps := by
    obtain ⟨hi, rfl⟩ | ⟨hi, rfl⟩ | ⟨hi, rfl⟩ := hi <;> rw [exec_of_dataForm hi]
    · exact storeReg_spec hc (isIpp_of_dataForm hi) hmem
    · exact storeReg_spec hc (isIpp_of_dataForm hi) hmem
    · rw [show maskW W 0#16 = 0#16 from maskW_of_lt (Nat.two_pow_pos W.bits)]
      exact storeZero_spec hc (isIpp_of_dataForm hi) hmem
  obtain ⟨t, ht, hframe, hp, hps⟩ := hstored
  exact ⟨t, ht, hframe.datum.trans (maskW_maskW W v), hframe.memory, hp, hframe.registers, hframe.pointers,
    hframe.control, hps, hframe.counted⟩

/-- Settles O38. -/
theorem storeOfX : Obligations.StoreOfX := by
  unfold Obligations.StoreOfX
  intro i m s hc hmem hi W u ea v
  have ho := isIpp_of_dataForm hi
  obtain ⟨t, ht, hframe, hp, hps⟩ := storeX_spec hc ho hmem
  have hv : s.rdReg (s.indexDataReg (.mem m)) W = maskW W v := by
    obtain ⟨hsp, hx⟩ := rdReg_indexDataReg hc ho W
    by_cases hred : Redirected s
    · rw [hsp hred, show v = s.sp from if_pos hred]
    · rw [hx hred, show v = s.slot0 (s.rho .x) from if_neg hred]
  have hdatum := hframe.datum
  rw [hv, maskW_maskW] at hdatum
  exact ⟨t, (congrFun (exec_of_dataForm hi) s).trans ht, hdatum, hframe.memory, hp, hframe.registers, hframe.pointers,
    hframe.control, hps, hframe.counted⟩

/-! ## Transfers -/

/-- What oax and oay exchange (41_prefix.md R153 to R157). -/
theorem State.rho_cases (s : State) :
    (s.ps.oax = true → s.ps.oay = false → s.rho .a = .x ∧ s.rho .x = .a ∧ s.rho .y = .y) ∧
    (s.ps.oax = false → s.ps.oay = true → s.rho .a = .y ∧ s.rho .y = .a ∧ s.rho .x = .x) ∧
    (s.ps.oax = false → s.ps.oay = false → ∀ r, s.rho r = r) := by
  refine ⟨fun hx _ => ?_, fun hx hy => ?_, fun hx hy r => ?_⟩
  · simp [State.rho, hx]
  · simp [State.rho, hx, hy]
  · cases r <;> simp [State.rho, hx, hy]

theorem State.width_iff (s : State) :
    (s.width = .word ↔ s.ps.siz = true) ∧ (s.width = .byte ↔ s.ps.siz = false) := by
  unfold State.width
  cases s.ps.siz <;> simp

theorem State.conflict_iff (s : State) : s.conflict = true ↔ s.ps.oax = true ∧ s.ps.oay = true := by
  simp [State.conflict]

theorem width_bits (W : Width) :
    W.bits = 8 * W.bytes ∧ (W = .byte → W.bytes = 1) ∧ (W = .word → W.bytes = 2) := by
  cases W <;> exact ⟨rfl, by decide, by decide⟩

/-- Settles O39. -/
theorem transfers : Obligations.Transfers := by
  unfold Obligations.Transfers
  refine ⟨fun i src dst s hc hi => ?_, fun s => ?_, fun W v => ?_⟩
  · obtain ⟨t, ht, hslot, hflags, hframe, hps⟩ := transfer_spec (src := src) (dst := dst) hc
    exact ⟨t, exec_of_transferForm hi ▸ ht, hslot, hflags, hframe.others, hframe.pointers, hframe.mem, hframe.control,
      hps, hframe.counted⟩
  · obtain ⟨hoax, hoay, hneither⟩ := s.rho_cases
    obtain ⟨hword, hbyte⟩ := s.width_iff
    exact ⟨hoax, hoay, hneither, s.conflict_iff, hword, hbyte, rfl, rfl, rfl⟩
  · obtain ⟨hbits, hbyte, hword⟩ := width_bits W
    refine ⟨hbits, hbyte, hword, maskW_toNat W v, ?_⟩
    rw [← msbW_maskW, msbW_eq_decide_le (maskW_toNat_lt W v), maskW_toNat]

/-- Settles O40. -/
theorem txsAndTsx : Obligations.TxsAndTsx := by
  unfold Obligations.TxsAndTsx
  intro s hc W
  obtain ⟨t, ht, hpointer, hframe, hp, hps⟩ := txs_spec hc
  obtain ⟨t', ht', hslot, hflags, hframe', hps'⟩ := tsx_spec hc
  exact ⟨⟨t, ht, hpointer, hframe.inactive, hp, hframe.registers, hframe.mem, hframe.control, hps, hframe.counted⟩,
    ⟨t', ht', hslot, hflags, hframe'.others, hframe'.pointers, hframe'.mem, hframe'.control, hps', hframe'.counted⟩⟩

/-! ## ALU -/

/-- Settles O41. -/
theorem adcAndSbc : Obligations.AdcAndSbc := by
  unfold Obligations.AdcAndSbc
  intro i o s hc W a m frame
  have hframe_of : ∀ {t : State}, SlotFrame (s.rho .a) (operandReads s o W) s t → t.ps = s.ps → frame t :=
    fun hframe hps =>
      ⟨hframe.others, hframe.pointers, hframe.sameMemory, hframe.control, hps, hframe.counted⟩
  refine ⟨fun hi => ?_, fun hi => ?_⟩
  · obtain ⟨t, ht, hsum, hframe, hps⟩ := addWithCarry_spec hc (isIpp_of_dataForm hi)
    exact ⟨t, (congrFun (exec_of_dataForm hi) s).trans ht, hsum, hframe_of hframe hps⟩
  · obtain ⟨t, ht, hdifference, hframe, hps⟩ := subWithCarry_spec hc (isIpp_of_dataForm hi)
    exact ⟨t, (congrFun (exec_of_dataForm hi) s).trans ht, hdifference, hframe_of hframe hps⟩

/-- Masking one operand of AND is no change where the other fits the width. -/
theorem maskW_and_of_lt {W : Width} {a m : Word} (hm : m.toNat < 2 ^ W.bits) : maskW W a &&& m = a &&& m := by
  apply BitVec.eq_of_getLsbD_eq
  intro k _
  have hmk := maskW_getLsbD W m k
  rw [maskW_of_lt hm] at hmk
  rw [BitVec.getLsbD_and, BitVec.getLsbD_and, maskW_getLsbD, hmk]
  cases decide (k < W.bits) <;> simp

/-- Settles O42. -/
theorem bitwiseLogic : Obligations.BitwiseLogic := by
  unfold Obligations.BitwiseLogic
  intro i op o s r hc hi hop W
  have ho := isIpp_of_dataForm hi
  have hlogic : ∃ t, exec i s = .next t ∧ SlotHolds (s.rho .a) W r s t ∧ FlagsOfValue W r [] s t ∧
      SlotFrame (s.rho .a) (operandReads s o W) s t ∧ t.ps = s.ps := by
    rw [exec_of_dataForm hi]
    obtain ⟨rfl, rfl⟩ | ⟨rfl, rfl⟩ | ⟨rfl, rfl⟩ := hop
    · rw [← maskW_and_of_lt (s.operandValue_lt o s.width)]
      exact logic_spec hc ho
    · exact logic_spec hc ho
    · exact logic_spec hc ho
  obtain ⟨t, ht, hslot, hflags, hframe, hps⟩ := hlogic
  exact ⟨t, ht, hslot, hflags, hframe.others, hframe.pointers, hframe.sameMemory, hframe.control, hps, hframe.counted⟩

/-- Settles O43. -/
theorem compares : Obligations.Compares := by
  unfold Obligations.Compares
  intro i o s hc W u redirected compared
  have hcompared : ∀ {a m : Word} {t : State}, FlagsOfCompare W a m s t → ReadFrame (operandReads s o W) s t →
      compared a m t := fun hflags hframe =>
    ⟨hflags, hframe.registers, hframe.pointers, hframe.sameMemory, hframe.control, hframe.counted⟩
  refine ⟨fun hi => ?_, fun hi => ?_, fun hi => ?_⟩
  · obtain ⟨t, ht, hflags, hframe, hps⟩ := compareReg_spec (r := .a) hc (isIpp_of_dataForm hi)
    exact ⟨t, (congrFun (exec_of_dataForm hi) s).trans ht, hps, hcompared hflags hframe⟩
  · obtain ⟨t, ht, hflags, hframe, hps⟩ := compareReg_spec (r := .y) hc (isIpp_of_dataForm hi)
    exact ⟨t, (congrFun (exec_of_dataForm hi) s).trans ht, hps, hcompared hflags hframe⟩
  · obtain ⟨t, ht, hsp, hx, hframe, hps⟩ := compareX_spec hc (isIpp_of_dataForm hi)
    exact ⟨t, (congrFun (exec_of_dataForm hi) s).trans ht, hps, fun hred => hcompared (hsp hred) hframe,
      fun hred => hcompared (hx hred) hframe⟩

/-- Settles O44. -/
theorem bitTest : Obligations.BitTest := by
  unfold Obligations.BitTest
  intro i o s hc hi W m a
  have ho := isIpp_of_dataForm hi
  rw [exec_of_dataForm hi]
  cases o with
  | imm v =>
    obtain ⟨t, ht, hflags, hframe, hps⟩ := bitImmediate_spec (v := v) hc
    exact ⟨t, ht, hflags, hframe.registers, hframe.pointers, hframe.sameMemory, hframe.control, hps, hframe.counted⟩
  | mem m =>
    obtain ⟨t, ht, hflags, hframe, hps⟩ := bitMem_spec hc ho
    exact ⟨t, ht, hflags, hframe.registers, hframe.pointers, hframe.sameMemory, hframe.control, hps, hframe.counted⟩

/-! ## Shifts -/

/-- The memory form of a shift is `rmwMem` of its transform. -/
theorem dataMeaning_of_isShift {op : IppOp} (hop : isShift op = true) (m : MemMode) :
    dataMeaning op (.mem m) = rmwMem (shiftFn op) m := by
  rcases (isShift_iff op).mp hop with rfl | rfl | rfl | rfl | rfl | rfl <;> rfl

theorem isShift_of_registerForm {i : Instr} {op : IppOp} {r : RegName} (h : registerForm i = some (op, r)) :
    isShift op = true := by
  cases i <;> first
    | (cases h; rfl)
    | nomatch h

/-- A shifted datum, read back. -/
theorem DatumFrame.shifted_toNat {op : IppOp} (hop : isShift op = true) {ea : EA} {W : Width} {v : Nat} {c : Bool}
    {n : Nat} {s t : State} (hv : v < 2 ^ W.bits)
    (h : DatumFrame ea W (BitVec.ofNat 16 (shiftedValue op W v c)) n s t) :
    (t.readMem ea W).toNat = shiftedValue op W v c := by
  rw [h.datum, maskW_toNat, BitVec.toNat_ofNat, mod_word_mod, Nat.mod_eq_of_lt (shiftedValue_lt hop hv c)]

/-- Settles O45. -/
theorem shiftsOfMemory : Obligations.ShiftsOfMemory := by
  unfold Obligations.ShiftsOfMemory
  intro i op m s hc hmem hi hop W ea v c
  obtain ⟨t, ht, hframe, hcarry, hflags, hps⟩ := rmwMem_spec hop hc (isIpp_of_dataForm hi) hmem
  have hexec : exec i = rmwMem (shiftFn op) m := (exec_of_dataForm hi).trans (dataMeaning_of_isShift hop m)
  exact ⟨t, hexec ▸ ht, hframe.shifted_toNat hop (s.readMem_lt ea W), hcarry, hflags, hframe.memory, hframe.registers,
    hframe.pointers, hframe.control, hps, hframe.counted⟩

/-- Settles O46. -/
theorem shiftsOfRegisters : Obligations.ShiftsOfRegisters := by
  unfold Obligations.ShiftsOfRegisters
  intro i op r s hc hi hlsr W v c w
  obtain ⟨t, ht, hslot, hcarry, hflags, hframe, hps⟩ := rmwReg_spec (r := r) (isShift_of_registerForm hi) hc
  exact ⟨t, (exec_of_registerForm hi s hlsr).trans ht, hslot, hcarry, hflags, hframe.others, hframe.pointers,
    hframe.mem, hframe.control, hps, hframe.counted⟩

/-- Settles O47. -/
theorem arithmeticShift : Obligations.ArithmeticShift := by
  unfold Obligations.ArithmeticShift
  intro i s hc hi v
  have hexec : exec i s = arithShift s := by
    obtain rfl | ⟨rfl, hind, hsiz⟩ := hi
    · rfl
    · show execLsrAcc s = arithShift s
      rw [execLsrAcc, hind, hsiz]
      rfl
  obtain ⟨t, ht, hresult, hcarry, hflags, hframe, hps⟩ := arithShift_spec hc
  refine ⟨t, hexec.trans ht, ?_, hcarry, hflags, hframe.others, hframe.pointers, hframe.mem, hframe.control, hps,
    hframe.counted⟩
  rw [hresult]
  exact asrFn_r s.cfg.asrFill v s.p

/-! ## Bits of memory -/

/-- Settles O48. -/
theorem testAndModify : Obligations.TestAndModify := by
  unfold Obligations.TestAndModify
  intro i m set s hc hmem hi W ea a
  have htested : ∃ f, exec i = testModify f m ∧ Replaces f set ∧ isIpp (.mem m) = false := by
    obtain ⟨hi, rfl⟩ | ⟨hi, rfl⟩ := hi
    · exact ⟨fun v a => v ||| a, exec_of_dataForm hi, or_replaces, isIpp_of_dataForm hi⟩
    · exact ⟨fun v a => v &&& ~~~a, exec_of_dataForm hi, andNot_replaces, isIpp_of_dataForm hi⟩
  obtain ⟨f, hexec, hf, ho⟩ := htested
  obtain ⟨t, ht, hbits, ⟨hzero, hflags⟩, hframe, hps⟩ := testModify_spec hf hc ho hmem
  exact ⟨t, hexec ▸ ht, hbits, hzero, hflags, hframe.memory, hframe.registers, hframe.pointers, hframe.control, hps,
    hframe.counted⟩

/-- Settles O49. -/
theorem memoryBits : Obligations.MemoryBits := by
  unfold Obligations.MemoryBits
  intro i m n b s hmem hi ea
  have hchange : exec i = changeBit n.val b m ∧ isIpp (.mem m) = false := by
    obtain ⟨hi, rfl⟩ | ⟨hi, rfl⟩ := hi <;> exact ⟨exec_of_dataForm hi, isIpp_of_dataForm hi⟩
  obtain ⟨hexec, ho⟩ := hchange
  obtain ⟨t, ht, hbits, hframe, hp, hps⟩ := changeBit_spec ho hmem
  exact ⟨t, hexec ▸ ht, hbits, hframe.memory, hp, hframe.registers, hframe.pointers, hframe.control, hps,
    hframe.counted⟩

/-- Settles O50. -/
theorem bitBranches : Obligations.BitBranches := by
  unfold Obligations.BitBranches
  intro i n b z r s hi
  rw [exec_of_bitBranchForm hi, branchBit, State.operandValue, State.loByte_readMem_byte, State.relTarget_eq_ofInt]
  split
  next h => rw [if_pos (beq_iff_eq.mp h)]; rfl
  next h => rw [if_neg (mt beq_iff_eq.mpr h)]; rfl

end Sys2Proof.Machine

/-! PROOF. The ipp-mode operations (O34, 47_forth_vm.md section 3): each does to the datum at IP what its instruction
does at that absolute address with osx clear (Laws/Ipp), and moves IP. -/

namespace Sys2Proof.Machine

open Sys2Proof.Safety

/-! ## The datum at IP -/

/-- The address an ipp-mode operation works at: IP, or under ind the word there. -/
def ippEa (s : State) : EA := ⟨if s.ps.ind then s.readWord ⟨s.ip, .full⟩ else s.ip, .full⟩

theorem State.readMem_congr {s t : State} (h : t.mem = s.mem) (ea : EA) (W : Width) :
    t.readMem ea W = s.readMem ea W := by
  cases W with
  | byte => exact congrArg zext (State.readByte_congr h ea.addr)
  | word => exact State.readWord_congr h ea

theorem effAddr_abs_ip (s : State) : (osxCleared s).effAddr (.abs s.ip) = ippEa s := by
  rw [← State.effAddr_ipp, ippEa, State.effAddr, State.withInd]
  split <;> rfl

theorem operandValue_abs_ip (s : State) (W : Width) :
    (osxCleared s).operandValue (.mem (.abs s.ip)) W = s.readMem (ippEa s) W := by
  rw [State.operandValue, effAddr_abs_ip]
  exact State.readMem_congr rfl _ W

theorem not_redirected_osxCleared (s : State) : ¬ Redirected (osxCleared s) := fun h => Bool.false_ne_true h.1

/-- What an ipp-mode operation on a datum of width U leaves: IP moved past the datum unless ind, all else but registers,
memory and flags as it was, `r` and `w` bytes of the datum read and written. -/
def IppFrame (U : Width) (r w : Nat) (s t : State) : Prop :=
  t.ip = (if s.ps.ind then s.ip else s.ip + BitVec.ofNat 16 U.bytes) ∧ t.wp = s.wp ∧ t.pc = s.pc ∧
  t.nmiPending = s.nmiPending ∧ t.irq = s.irq ∧ t.cfg = s.cfg ∧ t.ps = s.ps ∧ SameStackPointers s t ∧
  Counted ((if s.ps.ind then 2 else 0) + r) w s t

section

variable {s t : State}

/-- The operation at the absolute address, carried over to ipp mode. -/
theorem ippFrame_of (U : Width) {r w : Nat} (hcontrol : SameControl (osxCleared s) t)
    (hpointers : SameStackPointers (osxCleared s) t)
    (hcounted : Counted ((osxCleared s).pointerReads (.abs s.ip) + r) w (osxCleared s) t) :
    IppFrame U r w s (movedFrom s U t) := by
  obtain ⟨⟨-, hwp, hnmi, hirq, hcfg⟩, hpc⟩ := hcontrol
  exact ⟨rfl, hwp, hpc, hnmi, hirq, hcfg, rfl, hpointers, hcounted⟩

/-- An ipp-mode operation answers what the operation at the absolute address does, with IP moved. -/
theorem next_movedFrom {U : Width} {r r' : Result} (hmoved : r = andThen (movedFrom s U) r') (ht : r' = .next t) :
    r = .next (movedFrom s U t) := by
  rw [hmoved, ht]
  rfl

theorem SlotFrame.ipp {r : RegName} {W : Width}
    (h : SlotFrame r (operandReads (osxCleared s) (.mem (.abs s.ip)) W) (osxCleared s) t) :
    SameRegistersBut r s (movedFrom s W t) ∧ SameMemory s (movedFrom s W t) ∧
      IppFrame W W.bytes 0 s (movedFrom s W t) :=
  ⟨h.others, h.sameMemory, ippFrame_of W h.control h.pointers h.counted⟩

theorem ReadFrame.ipp {W : Width}
    (h : ReadFrame (operandReads (osxCleared s) (.mem (.abs s.ip)) W) (osxCleared s) t) :
    SameRegisters s (movedFrom s W t) ∧ SameMemory s (movedFrom s W t) ∧
      IppFrame W W.bytes 0 s (movedFrom s W t) :=
  ⟨h.registers, h.sameMemory, ippFrame_of W h.control h.pointers h.counted⟩

theorem DatumFrame.ipp {W : Width} {v : Word} {r : Nat}
    (h : DatumFrame ((osxCleared s).effAddr (.abs s.ip)) W v ((osxCleared s).pointerReads (.abs s.ip) + r)
      (osxCleared s) t) :
    SameRegisters s (movedFrom s W t) ∧ SameMemoryBut (bytesAt (ippEa s) W) s (movedFrom s W t) ∧
      IppFrame W r W.bytes s (movedFrom s W t) := by
  have hmemory := h.memory
  rw [effAddr_abs_ip] at hmemory
  exact ⟨h.registers, hmemory, ippFrame_of W h.control h.pointers h.counted⟩

theorem readMem_movedFrom (U W : Width) (ea : EA) : (movedFrom s U t).readMem ea W = t.readMem ea W :=
  State.readMem_congr rfl ea W

end

/-! ## The operations -/

section

variable {s : State}

theorem execIpp_load (hc : s.conflict = false) {o : IppOp} {r : RegName}
    (ho : o = .lda ∧ r = .a ∨ o = .ldx ∧ r = .x ∨ o = .ldy ∧ r = .y) :
    ∃ t, execIpp o s = .next t ∧ SlotHolds (s.rho r) s.width (s.readMem (ippEa s) s.width) s t ∧
      FlagsOfValue s.width (s.readMem (ippEa s) s.width) [] s t ∧
      SameRegistersBut (s.rho r) s t ∧ SameMemory s t ∧ IppFrame s.width s.width.bytes 0 s t := by
  rw [execIpp_eq, ← operandValue_abs_ip]
  have hreg : ∀ r : RegName, ∃ t, loadReg r (.mem .ipp) s = .next t ∧
      SlotHolds (s.rho r) s.width ((osxCleared s).operandValue (.mem (.abs s.ip)) s.width) s t ∧
      FlagsOfValue s.width ((osxCleared s).operandValue (.mem (.abs s.ip)) s.width) [] s t ∧
      SameRegistersBut (s.rho r) s t ∧ SameMemory s t ∧ IppFrame s.width s.width.bytes 0 s t := by
    intro r
    obtain ⟨t, ht, hslot, hflags, hframe, -⟩ :=
      loadReg_spec (r := r) (o := .mem (.abs s.ip)) (s := osxCleared s) hc rfl
    exact ⟨movedFrom s s.width t, next_movedFrom (loadReg_ipp s r) ht, hslot, hflags, hframe.ipp⟩
  obtain ⟨rfl, rfl⟩ | ⟨rfl, rfl⟩ | ⟨rfl, rfl⟩ := ho
  · exact hreg .a
  · obtain ⟨t, ht, -, hplain, hflags, -⟩ := loadX_spec (o := .mem (.abs s.ip)) (s := osxCleared s) hc rfl
    obtain ⟨hslot, hframe⟩ := hplain (not_redirected_osxCleared s)
    exact ⟨movedFrom s s.width t, next_movedFrom (loadX_ipp s) ht, hslot, hflags, hframe.ipp⟩
  · exact hreg .y

theorem execIpp_store (hc : s.conflict = false) (hmem : s.mem.wf = true) {o : IppOp} {w : Word}
    (ho : o = .sta ∧ w = maskW s.width (s.slot0 (s.rho .a)) ∨ o = .stx ∧ w = maskW s.width (s.slot0 (s.rho .x)) ∨
      o = .sty ∧ w = maskW s.width (s.slot0 (s.rho .y)) ∨ o = .stz ∧ w = 0#16) :
    ∃ t, execIpp o s = .next t ∧ t.readMem (ippEa s) s.width = w ∧ t.p = s.p ∧
      SameRegisters s t ∧ SameMemoryBut (bytesAt (ippEa s) s.width) s t ∧ IppFrame s.width 0 s.width.bytes s t := by
  have hstore : ∃ t, execIpp o s = .next (movedFrom s s.width t) ∧ maskW s.width w = w ∧
      DatumFrame ((osxCleared s).effAddr (.abs s.ip)) s.width w ((osxCleared s).pointerReads (.abs s.ip) + 0)
        (osxCleared s) t ∧ t.p = s.p := by
    rw [execIpp_eq]
    obtain ⟨rfl, rfl⟩ | ⟨rfl, rfl⟩ | ⟨rfl, rfl⟩ | ⟨rfl, rfl⟩ := ho
    · obtain ⟨t, ht, hframe, hp, -⟩ :=
        storeReg_spec (r := .a) (m := .abs s.ip) (s := osxCleared s) hc rfl hmem
      exact ⟨t, next_movedFrom (storeReg_ipp s .a) ht, maskW_maskW _ _, hframe, hp⟩
    · obtain ⟨t, ht, hframe, hp, -⟩ := storeX_spec (m := .abs s.ip) (s := osxCleared s) hc rfl hmem
      obtain ⟨-, hx⟩ := rdReg_indexDataReg (o := .mem (.abs s.ip)) (s := osxCleared s) hc rfl s.width
      have hvalue := hx (not_redirected_osxCleared s)
      exact ⟨t, next_movedFrom (storeX_ipp s) ht, maskW_maskW _ _, hvalue ▸ hframe, hp⟩
    · obtain ⟨t, ht, hframe, hp, -⟩ :=
        storeReg_spec (r := .y) (m := .abs s.ip) (s := osxCleared s) hc rfl hmem
      exact ⟨t, next_movedFrom (storeReg_ipp s .y) ht, maskW_maskW _ _, hframe, hp⟩
    · obtain ⟨t, ht, hframe, hp, -⟩ := storeZero_spec (m := .abs s.ip) (s := osxCleared s) hc rfl hmem
      exact ⟨t, next_movedFrom (storeZero_ipp s) ht, maskW_of_lt (Nat.two_pow_pos s.width.bits), hframe, hp⟩
  obtain ⟨t, ht, hw, hframe, hp⟩ := hstore
  have hdatum := hframe.datum
  rw [effAddr_abs_ip, hw] at hdatum
  exact ⟨_, ht, (readMem_movedFrom _ _ _).trans hdatum, hp, hframe.ipp⟩

theorem execIpp_adc (hc : s.conflict = false) :
    ∃ t, execIpp .adc s = .next t ∧
      SumIn (s.rho .a) s.width (maskW s.width (s.slot0 (s.rho .a))) (s.readMem (ippEa s) s.width) s t ∧
      SameRegistersBut (s.rho .a) s t ∧ SameMemory s t ∧ IppFrame s.width s.width.bytes 0 s t := by
  obtain ⟨t, ht, hsum, hframe, -⟩ := addWithCarry_spec (o := .mem (.abs s.ip)) (s := osxCleared s) hc rfl
  rw [execIpp_eq, ← operandValue_abs_ip]
  exact ⟨movedFrom s s.width t, next_movedFrom (addWithCarry_ipp s) ht, hsum, hframe.ipp⟩

theorem execIpp_sbc (hc : s.conflict = false) :
    ∃ t, execIpp .sbc s = .next t ∧
      DifferenceIn (s.rho .a) s.width (maskW s.width (s.slot0 (s.rho .a))) (s.readMem (ippEa s) s.width) s t ∧
      SameRegistersBut (s.rho .a) s t ∧ SameMemory s t ∧ IppFrame s.width s.width.bytes 0 s t := by
  obtain ⟨t, ht, hdifference, hframe, -⟩ := subWithCarry_spec (o := .mem (.abs s.ip)) (s := osxCleared s) hc rfl
  rw [execIpp_eq, ← operandValue_abs_ip]
  exact ⟨movedFrom s s.width t, next_movedFrom (subWithCarry_ipp s) ht, hdifference, hframe.ipp⟩

theorem execIpp_logic (hc : s.conflict = false) {o : IppOp} {w : Word} :
    let a := maskW s.width (s.slot0 (s.rho .a))
    let v := s.readMem (ippEa s) s.width
    (o = .and ∧ w = a &&& v ∨ o = .ora ∧ w = a ||| v ∨ o = .eor ∧ w = a ^^^ v) →
    ∃ t, execIpp o s = .next t ∧ SlotHolds (s.rho .a) s.width w s t ∧ FlagsOfValue s.width w [] s t ∧
      SameRegistersBut (s.rho .a) s t ∧ SameMemory s t ∧ IppFrame s.width s.width.bytes 0 s t := by
  intro a v ho
  have hlogic : ∃ f : Word → Word → Word, execIpp o = logic f (.mem .ipp) ∧ w = f a v := by
    rw [execIpp_eq]
    obtain ⟨rfl, rfl⟩ | ⟨rfl, rfl⟩ | ⟨rfl, rfl⟩ := ho
    · exact ⟨(· &&& ·), rfl, rfl⟩
    · exact ⟨(· ||| ·), rfl, rfl⟩
    · exact ⟨(· ^^^ ·), rfl, rfl⟩
  obtain ⟨f, hexec, rfl⟩ := hlogic
  obtain ⟨t, ht, hslot, hflags, hframe, -⟩ :=
    logic_spec (f := f) (o := .mem (.abs s.ip)) (s := osxCleared s) hc rfl
  rw [operandValue_abs_ip] at hslot hflags
  exact ⟨movedFrom s s.width t, (congrFun hexec s).trans (next_movedFrom (logic_ipp s f) ht), hslot, hflags, hframe.ipp⟩

theorem execIpp_compare (hc : s.conflict = false) {o : IppOp} {r : RegName}
    (ho : o = .cmp ∧ r = .a ∨ o = .cpx ∧ r = .x ∨ o = .cpy ∧ r = .y) :
    ∃ t, execIpp o s = .next t ∧
      FlagsOfCompare s.width (s.slot0 (s.rho r)) (s.readMem (ippEa s) s.width) s t ∧
      SameRegisters s t ∧ SameMemory s t ∧ IppFrame s.width s.width.bytes 0 s t := by
  rw [execIpp_eq, ← operandValue_abs_ip]
  have hreg : ∀ r : RegName, ∃ t, compareReg r (.mem .ipp) s = .next t ∧
      FlagsOfCompare s.width (s.slot0 (s.rho r)) ((osxCleared s).operandValue (.mem (.abs s.ip)) s.width) s t ∧
      SameRegisters s t ∧ SameMemory s t ∧ IppFrame s.width s.width.bytes 0 s t := by
    intro r
    obtain ⟨t, ht, hflags, hframe, -⟩ :=
      compareReg_spec (r := r) (o := .mem (.abs s.ip)) (s := osxCleared s) hc rfl
    exact ⟨movedFrom s s.width t, next_movedFrom (compareReg_ipp s r) ht, hflags, hframe.ipp⟩
  obtain ⟨rfl, rfl⟩ | ⟨rfl, rfl⟩ | ⟨rfl, rfl⟩ := ho
  · exact hreg .a
  · obtain ⟨t, ht, -, hplain, hframe, -⟩ := compareX_spec (o := .mem (.abs s.ip)) (s := osxCleared s) hc rfl
    exact ⟨movedFrom s s.width t, next_movedFrom (compareX_ipp s) ht, hplain (not_redirected_osxCleared s), hframe.ipp⟩
  · exact hreg .y

theorem execIpp_bit (hc : s.conflict = false) :
    ∃ t, execIpp .bit s = .next t ∧
      FlagsOfBitTest s.width (maskW s.width (s.slot0 (s.rho .a))) (s.readMem (ippEa s) s.width) s t ∧
      SameRegisters s t ∧ SameMemory s t ∧ IppFrame s.width s.width.bytes 0 s t := by
  obtain ⟨t, ht, hflags, hframe, -⟩ := bitMem_spec (m := .abs s.ip) (s := osxCleared s) hc rfl
  rw [execIpp_eq, ← operandValue_abs_ip]
  exact ⟨movedFrom s s.width t, next_movedFrom (bitMem_ipp s) ht, hflags, hframe.ipp⟩

theorem execIpp_shift (hc : s.conflict = false) (hmem : s.mem.wf = true) {o : IppOp} (ho : isShift o = true) :
    let v := (s.readMem (ippEa s) s.width).toNat
    let w := shiftedValue o s.width v (getFlag .c s.p)
    ∃ t, execIpp o s = .next t ∧ (t.readMem (ippEa s) s.width).toNat = w ∧
      getFlag .c t.p = shiftedCarry o s.width v (getFlag .c s.p) ∧
      FlagsOfValue s.width (BitVec.ofNat 16 w) [.c] s t ∧
      SameRegisters s t ∧ SameMemoryBut (bytesAt (ippEa s) s.width) s t ∧
      IppFrame s.width s.width.bytes s.width.bytes s t := by
  obtain ⟨t, ht, hframe, hcarry, hflags, -⟩ :=
    rmwMem_spec ho (m := .abs s.ip) (s := osxCleared s) hc rfl hmem
  have hdatum := hframe.shifted_toNat ho ((osxCleared s).readMem_lt _ _)
  have hvalue : (osxCleared s).readMem (ippEa s) s.width = s.readMem (ippEa s) s.width :=
    State.readMem_congr rfl _ _
  rw [effAddr_abs_ip, State.width_osxCleared, hvalue] at hdatum hcarry hflags
  rw [execIpp_eq, dataMeaning_of_isShift ho]
  exact ⟨movedFrom s s.width t, next_movedFrom (rmwMem_ipp s (shiftFn o)) ht,
    (congrArg BitVec.toNat (readMem_movedFrom _ _ _)).trans hdatum, hcarry, hflags, hframe.ipp⟩

theorem execIpp_testModify (hc : s.conflict = false) (hmem : s.mem.wf = true) {o : IppOp} {b : Bool}
    (ho : o = .tsb ∧ b = true ∨ o = .trb ∧ b = false) :
    let a := maskW s.width (s.slot0 (s.rho .a))
    let v := s.readMem (ippEa s) s.width
    ∃ t, execIpp o s = .next t ∧
      (∀ k, (t.readMem (ippEa s) s.width).getLsbD k = if a.getLsbD k then b else v.getLsbD k) ∧
      getFlag .z t.p = decide (a &&& v = 0#16) ∧ SameFlagsBut [.z] s t ∧
      SameRegisters s t ∧ SameMemoryBut (bytesAt (ippEa s) s.width) s t ∧
      IppFrame s.width s.width.bytes s.width.bytes s t := by
  have htested : ∃ f, execIpp o = testModify f .ipp ∧ Replaces f b := by
    rw [execIpp_eq]
    obtain ⟨rfl, rfl⟩ | ⟨rfl, rfl⟩ := ho
    · exact ⟨fun v a => v ||| a, rfl, or_replaces⟩
    · exact ⟨fun v a => v &&& ~~~a, rfl, andNot_replaces⟩
  obtain ⟨f, hexec, hf⟩ := htested
  obtain ⟨t, ht, hbits, ⟨hzero, hflags⟩, hframe, -⟩ :=
    testModify_spec hf (m := .abs s.ip) (s := osxCleared s) hc rfl hmem
  have hvalue : (osxCleared s).readMem (ippEa s) s.width = s.readMem (ippEa s) s.width :=
    State.readMem_congr rfl _ _
  rw [effAddr_abs_ip, State.width_osxCleared, hvalue] at hbits hzero
  refine ⟨movedFrom s s.width t, (congrFun hexec s).trans (next_movedFrom (testModify_ipp s f) ht), fun k => ?_, hzero,
    hflags, hframe.ipp⟩
  rw [readMem_movedFrom]
  exact hbits k

theorem execIpp_memoryBit (hmem : s.mem.wf = true) {n : Fin 8} {o : IppOp} {b : Bool}
    (ho : o = .rmb n ∧ b = false ∨ o = .smb n ∧ b = true) :
    ∃ t, execIpp o s = .next t ∧
      (∀ k, k < 8 → (t.readByte (ippEa s).addr).getLsbD k =
        if k = n.val then b else (s.readByte (ippEa s).addr).getLsbD k) ∧
      t.p = s.p ∧ SameRegisters s t ∧ SameMemoryBut [(ippEa s).addr] s t ∧ IppFrame .byte 1 1 s t := by
  obtain ⟨t, ht, hbits, hframe, hp, -⟩ :=
    changeBit_spec (n := n) (b := b) (m := .abs s.ip) (s := osxCleared s) rfl hmem
  have hexec : execIpp o = changeBit n.val b .ipp := by
    rw [execIpp_eq]
    obtain ⟨rfl, rfl⟩ | ⟨rfl, rfl⟩ := ho <;> rfl
  rw [effAddr_abs_ip] at hbits
  exact ⟨movedFrom s .byte t, (congrFun hexec s).trans (next_movedFrom (changeBit_ipp s n.val b) ht), hbits, hp,
    hframe.ipp⟩

/-- Every operation but RMBn and SMBn faults under the conflict. -/
theorem execIpp_fault (hc : s.conflict = true) {o : IppOp} (ho : isMemoryBit o = false) :
    execIpp o s = .fault .prefixConflict := by
  rw [execIpp_eq]
  exact (dataMeaning_guarded ho (.inr ⟨.ipp, rfl⟩)).fault hc

end

theorem isMemoryBit_eq_false {o : IppOp} (h : ∀ n, o ≠ .rmb n ∧ o ≠ .smb n) : isMemoryBit o = false := by
  cases o with
  | rmb n => exact absurd rfl (h n).1
  | smb n => exact absurd rfl (h n).2
  | _ => rfl

/-- Settles O34. -/
theorem ippOperationsWorkAtIp : Obligations.IppOperationsWorkAtIp := by
  unfold Obligations.IppOperationsWorkAtIp
  intro s hmem W ea v a frame intoRegister tested stored
  refine ⟨fun hc => ⟨?loads, ?stores, execIpp_adc hc, execIpp_sbc hc, ?logic, ?compares, execIpp_bit hc, ?shifts,
    ?testModify⟩, ?memoryBits, ?conflict⟩
  case loads => exact fun o r ho => execIpp_load hc ho
  case stores => exact fun o w ho => execIpp_store hc hmem ho
  case logic => exact fun o w ho => execIpp_logic hc ho
  case compares => exact fun o r ho => execIpp_compare hc ho
  case shifts => exact fun o ho => execIpp_shift hc hmem ho
  case testModify => exact fun o b ho => execIpp_testModify hc hmem ho
  case memoryBits => exact fun n o b ho => execIpp_memoryBit hmem ho
  case conflict => exact fun hc o ho => execIpp_fault hc (isMemoryBit_eq_false ho)

end Sys2Proof.Machine
